-- ==== Sys2Proof/Word.lean ====
section
/-! DEFINITION. The word types of the input-event engine (rules R8, R9, R90, R295): what the spec itself treats as
bits. Bit 0 is the least significant bit of every one of them (R9). -/

namespace Sys2Proof

/-- A host command word, 41 bits: `w`, `addr`, `data` from the top (R90). -/
abbrev CmdWord := BitVec 41

/-- A register word address, `ADDR_BITS` = 8 (R8, R70). -/
abbrev Addr := BitVec 8

/-- A register data word, `DATA_BITS` = 32 (R8, R70). -/
abbrev Word := BitVec 32

/-- A raw analog sample, `ADC_BITS` = 12 (R8). -/
abbrev Raw := BitVec 12

/-- A button's millisecond time stamp, `BT_BITS` = 32 (R8). -/
abbrev Millis := BitVec 32

/-- A configured duration in milliseconds, `DUR_BITS` = 16 (R8). -/
abbrev Duration := BitVec 16

/-- A microsecond time stamp, `US_BITS` = 64 (R8). -/
abbrev Micros := BitVec 64

/-- A signed coordinate in units of `1/ONE`, held in 16 bits (R11, R30). -/
abbrev Coord := BitVec 16

/-- An event record of the event port, 24 bits (R295). -/
abbrev EventWord := BitVec 24

end Sys2Proof
end

