-- ==== Sys2Proof/Syntax.lean ====
section
/-! DEFINITION. Syntax: the 105 host operations of the opcode table (R7, R94), one constructor each; the moves the
environment makes at the block's ports (R6, R60, R320); the assembler line and the pseudo-operations of the test-program
syntax (R98, R99). The only operand an encoding carries is the 32-bit write data (R90, R95), so only the `wr` constructors
have one; the values on the input ports are operands that no word encodes (R97) and stand in `Ports`. -/

namespace Sys2Proof

/-- The host operations, in the order of the opcode table. -/
inductive Instr where
  /-- `RD.CMD`, register read (format HR), R222. -/
  | rdCmd
  /-- `RD.STATUS`, register read (format HR), R223. -/
  | rdStatus
  /-- `RD.NOW_US`, register read (format HR), R113. -/
  | rdNowUs
  /-- `RD.NOW_MS`, register read (format HR), R114. -/
  | rdNowMs
  /-- `RD.ET_US`, register read (format HR), R118. -/
  | rdEtUs
  /-- `RD.ET_MS`, register read (format HR), R119. -/
  | rdEtMs
  /-- `RD.B0_DEBOUNCE`, register read (format HR), R230. -/
  | rdB0Debounce
  /-- `RD.B0_CLICK_MS`, register read (format HR), R231. -/
  | rdB0ClickMs
  /-- `RD.B0_PRESS_MS`, register read (format HR), R232. -/
  | rdB0PressMs
  /-- `RD.B0_DURING_MS`, register read (format HR), R233. -/
  | rdB0DuringMs
  /-- `RD.B0_IDLE_MS`, register read (format HR), R234. -/
  | rdB0IdleMs
  /-- `RD.B0_TICK_MS`, register read (format HR), R235. -/
  | rdB0TickMs
  /-- `RD.B0_EVT_EN`, register read (format HR), R236. -/
  | rdB0EvtEn
  /-- `RD.B0_EVT_STATUS`, register read (format HR), R237. -/
  | rdB0EvtStatus
  /-- `RD.B0_STATE`, register read (format HR), R238. -/
  | rdB0State
  /-- `RD.B0_NCLICKS`, register read (format HR), R239. -/
  | rdB0Nclicks
  /-- `RD.B0_HOLD_MS`, register read (format HR), R240. -/
  | rdB0HoldMs
  /-- `RD.B0_WASPRESSED`, register read (format HR), R241. -/
  | rdB0Waspressed
  /-- `RD.B0_WASRELEASED`, register read (format HR), R242. -/
  | rdB0Wasreleased
  /-- `RD.B0_DBLCLICKED`, register read (format HR), R243. -/
  | rdB0Dblclicked
  /-- `RD.B0_TIME`, register read (format HR), R244. -/
  | rdB0Time
  /-- `RD.B0_MAXCLICKS`, register read (format HR), R245. -/
  | rdB0Maxclicks
  /-- `RD.B1_DEBOUNCE`, register read (format HR), R230. -/
  | rdB1Debounce
  /-- `RD.B1_CLICK_MS`, register read (format HR), R231. -/
  | rdB1ClickMs
  /-- `RD.B1_PRESS_MS`, register read (format HR), R232. -/
  | rdB1PressMs
  /-- `RD.B1_DURING_MS`, register read (format HR), R233. -/
  | rdB1DuringMs
  /-- `RD.B1_IDLE_MS`, register read (format HR), R234. -/
  | rdB1IdleMs
  /-- `RD.B1_TICK_MS`, register read (format HR), R235. -/
  | rdB1TickMs
  /-- `RD.B1_EVT_EN`, register read (format HR), R236. -/
  | rdB1EvtEn
  /-- `RD.B1_EVT_STATUS`, register read (format HR), R237. -/
  | rdB1EvtStatus
  /-- `RD.B1_STATE`, register read (format HR), R238. -/
  | rdB1State
  /-- `RD.B1_NCLICKS`, register read (format HR), R239. -/
  | rdB1Nclicks
  /-- `RD.B1_HOLD_MS`, register read (format HR), R240. -/
  | rdB1HoldMs
  /-- `RD.B1_WASPRESSED`, register read (format HR), R241. -/
  | rdB1Waspressed
  /-- `RD.B1_WASRELEASED`, register read (format HR), R242. -/
  | rdB1Wasreleased
  /-- `RD.B1_DBLCLICKED`, register read (format HR), R243. -/
  | rdB1Dblclicked
  /-- `RD.B1_TIME`, register read (format HR), R244. -/
  | rdB1Time
  /-- `RD.B1_MAXCLICKS`, register read (format HR), R245. -/
  | rdB1Maxclicks
  /-- `RD.JOY_CTRL`, register read (format HR), R250. -/
  | rdJoyCtrl
  /-- `RD.ALPHA`, register read (format HR), R251. -/
  | rdAlpha
  /-- `RD.DEADZONE`, register read (format HR), R252. -/
  | rdDeadzone
  /-- `RD.MOVE_EPS`, register read (format HR), R253. -/
  | rdMoveEps
  /-- `RD.ENTER_TH`, register read (format HR), R254. -/
  | rdEnterTh
  /-- `RD.EXIT_TH`, register read (format HR), R255. -/
  | rdExitTh
  /-- `RD.REPEAT_MS`, register read (format HR), R256. -/
  | rdRepeatMs
  /-- `RD.CAL_N`, register read (format HR), R257. -/
  | rdCalN
  /-- `RD.CALX_MIN`, register read (format HR), R258. -/
  | rdCalxMin
  /-- `RD.CALX_CENTER`, register read (format HR), R259. -/
  | rdCalxCenter
  /-- `RD.CALX_MAX`, register read (format HR), R260. -/
  | rdCalxMax
  /-- `RD.CALY_MIN`, register read (format HR), R261. -/
  | rdCalyMin
  /-- `RD.CALY_CENTER`, register read (format HR), R262. -/
  | rdCalyCenter
  /-- `RD.CALY_MAX`, register read (format HR), R263. -/
  | rdCalyMax
  /-- `RD.JEVT_EN`, register read (format HR), R264. -/
  | rdJevtEn
  /-- `RD.JEVT_STATUS`, register read (format HR), R265. -/
  | rdJevtStatus
  /-- `RD.RAWX`, register read (format HR), R266. -/
  | rdRawx
  /-- `RD.RAWY`, register read (format HR), R267. -/
  | rdRawy
  /-- `RD.NX`, register read (format HR), R268. -/
  | rdNx
  /-- `RD.NY`, register read (format HR), R269. -/
  | rdNy
  /-- `RD.MAG`, register read (format HR), R270. -/
  | rdMag
  /-- `RD.ANGLE`, register read (format HR), R271. -/
  | rdAngle
  /-- `RD.DIR8`, register read (format HR), R272. -/
  | rdDir8
  /-- `RD.FILTX`, register read (format HR), R273. -/
  | rdFiltx
  /-- `RD.FILTY`, register read (format HR), R274. -/
  | rdFilty
  /-- `WR.ET_US`, register write of `v` (format HW), R116. -/
  | wrEtUs (v : Word)
  /-- `WR.ET_MS`, register write of `v` (format HW), R117. -/
  | wrEtMs (v : Word)
  /-- `WR.B0_DEBOUNCE`, register write of `v` (format HW), R230. -/
  | wrB0Debounce (v : Word)
  /-- `WR.B0_CLICK_MS`, register write of `v` (format HW), R231. -/
  | wrB0ClickMs (v : Word)
  /-- `WR.B0_PRESS_MS`, register write of `v` (format HW), R232. -/
  | wrB0PressMs (v : Word)
  /-- `WR.B0_DURING_MS`, register write of `v` (format HW), R233. -/
  | wrB0DuringMs (v : Word)
  /-- `WR.B0_IDLE_MS`, register write of `v` (format HW), R234. -/
  | wrB0IdleMs (v : Word)
  /-- `WR.B0_TICK_MS`, register write of `v` (format HW), R235. -/
  | wrB0TickMs (v : Word)
  /-- `WR.B0_EVT_EN`, register write of `v` (format HW), R236. -/
  | wrB0EvtEn (v : Word)
  /-- `WR.B0_EVT_STATUS`, register write of `v` (format HW), R237. -/
  | wrB0EvtStatus (v : Word)
  /-- `WR.B1_DEBOUNCE`, register write of `v` (format HW), R230. -/
  | wrB1Debounce (v : Word)
  /-- `WR.B1_CLICK_MS`, register write of `v` (format HW), R231. -/
  | wrB1ClickMs (v : Word)
  /-- `WR.B1_PRESS_MS`, register write of `v` (format HW), R232. -/
  | wrB1PressMs (v : Word)
  /-- `WR.B1_DURING_MS`, register write of `v` (format HW), R233. -/
  | wrB1DuringMs (v : Word)
  /-- `WR.B1_IDLE_MS`, register write of `v` (format HW), R234. -/
  | wrB1IdleMs (v : Word)
  /-- `WR.B1_TICK_MS`, register write of `v` (format HW), R235. -/
  | wrB1TickMs (v : Word)
  /-- `WR.B1_EVT_EN`, register write of `v` (format HW), R236. -/
  | wrB1EvtEn (v : Word)
  /-- `WR.B1_EVT_STATUS`, register write of `v` (format HW), R237. -/
  | wrB1EvtStatus (v : Word)
  /-- `WR.JOY_CTRL`, register write of `v` (format HW), R250. -/
  | wrJoyCtrl (v : Word)
  /-- `WR.ALPHA`, register write of `v` (format HW), R251. -/
  | wrAlpha (v : Word)
  /-- `WR.DEADZONE`, register write of `v` (format HW), R252. -/
  | wrDeadzone (v : Word)
  /-- `WR.MOVE_EPS`, register write of `v` (format HW), R253. -/
  | wrMoveEps (v : Word)
  /-- `WR.ENTER_TH`, register write of `v` (format HW), R254. -/
  | wrEnterTh (v : Word)
  /-- `WR.EXIT_TH`, register write of `v` (format HW), R255. -/
  | wrExitTh (v : Word)
  /-- `WR.REPEAT_MS`, register write of `v` (format HW), R256. -/
  | wrRepeatMs (v : Word)
  /-- `WR.CAL_N`, register write of `v` (format HW), R257. -/
  | wrCalN (v : Word)
  /-- `WR.CALX_MIN`, register write of `v` (format HW), R258. -/
  | wrCalxMin (v : Word)
  /-- `WR.CALX_CENTER`, register write of `v` (format HW), R259. -/
  | wrCalxCenter (v : Word)
  /-- `WR.CALX_MAX`, register write of `v` (format HW), R260. -/
  | wrCalxMax (v : Word)
  /-- `WR.CALY_MIN`, register write of `v` (format HW), R261. -/
  | wrCalyMin (v : Word)
  /-- `WR.CALY_CENTER`, register write of `v` (format HW), R262. -/
  | wrCalyCenter (v : Word)
  /-- `WR.CALY_MAX`, register write of `v` (format HW), R263. -/
  | wrCalyMax (v : Word)
  /-- `WR.JEVT_EN`, register write of `v` (format HW), R264. -/
  | wrJevtEn (v : Word)
  /-- `WR.JEVT_STATUS`, register write of `v` (format HW), R265. -/
  | wrJevtStatus (v : Word)
  /-- `NOP`, command (format HC), R212. -/
  | nop
  /-- `BEGIN`, command (format HC), R112. -/
  | beginClock
  /-- `BTICK`, command (format HC), R144. -/
  | bTick
  /-- `JTICK`, command (format HC), R210. -/
  | jTick
  /-- `BRESET0`, command (format HC), R145. -/
  | bReset0
  /-- `BRESET1`, command (format HC), R145. -/
  | bReset1
  /-- `CALIBRATE`, command (format HC), R211. -/
  | calibrate
  /-- `ETRESET`, command (format HC), R115. -/
  | etReset
deriving DecidableEq, Repr

/-- The values the environment puts on the input ports for one operation (R6, R60, R97). It is chosen under no law (U2).
`adcX`, `adcY` is the pair the first acquisition sees and `adcMore` lists the pairs the later acquisitions of the same
operation see, in order; after the last one the ports keep their level. -/
structure Ports where
  /-- `cnt_in`, the free-running down-counter. The port is `CNT_BITS` wide: `sampleCnt` takes that many bits. -/
  cnt : Nat
  /-- `btn0`, 1 = active. -/
  btn0 : Bool
  /-- `btn1`, 1 = active. -/
  btn1 : Bool
  /-- `adc_x` at the first acquisition. -/
  adcX : Raw
  /-- `adc_y` at the first acquisition. -/
  adcY : Raw
  /-- The synchronized pairs of the further acquisitions (CALIBRATE takes `CAL_N` pairs, R211). -/
  adcMore : List (Raw × Raw)
deriving DecidableEq, Repr

/-- One move of the environment (R6, R7): the host issues a command word while the input ports carry the given values, or
`rst` is asserted and released between two operations (R320, U13). -/
inductive Move where
  /-- A command word on the host port, with the port values the operation may sample. -/
  | op (cw : CmdWord) (ports : Ports)
  /-- Hardware reset. -/
  | rst
deriving DecidableEq, Repr

/-- Which button a pseudo-operation names: `B0` or `B1` (R3). -/
inductive ButtonId where
  | b0
  | b1
deriving DecidableEq, Repr

/-- The pseudo-operations of R99. -/
inductive PseudoOp where
  /-- `BTICK*n lvl=L`. -/
  | bticks (n : Nat) (lvl : Bool)
  /-- `JTICK*n cnt0=C step=S x=X y=Y lvl=L`. -/
  | jticks (n cnt0 step : Nat) (x y : Raw) (lvl : Bool)
  /-- `SET.B<i>_EVT <kinds>`, the kinds given by their numbers. -/
  | setEvt (i : ButtonId) (kinds : List Nat)
  /-- `ACK.B<i>_EVT`, `seen` being the value the first read returns. -/
  | ackEvt (i : ButtonId) (seen : Word)
deriving DecidableEq, Repr

/-- One line of the test-program syntax of R98, after the text is cut into words: the mnemonic, the value of a `WR` and the
port operands given as `name=value`. -/
structure AsmLine where
  /-- The mnemonic, as the opcode table spells it. -/
  mnemonic : String
  /-- The `<value>` of a `WR`. -/
  value : Option Int
  /-- `cnt=`. -/
  cnt : Option Nat
  /-- `lvl=`. -/
  lvl : Option Bool
  /-- `x=` and `y=`. -/
  xy : Option (Nat × Nat)
  /-- `samples=`. -/
  samples : Option (List (Nat × Nat))
deriving DecidableEq, Repr

end Sys2Proof
end

