-- ==== Sys2Proof/Decode.lean ====
section
/-! DEFINITION. Decoding and encoding of the 41-bit command word (R90 to R94, R96). No command word is illegal (R96): the
decoder names the words that are no row of the opcode table (`NotRow`), and Machine/HostPort.lean gives each of them the
behaviour R96 states. After the decoder stands the encoder, written from the same formats. -/

namespace Sys2Proof

/-- The words of R96 that are no row of the opcode table, each with the field that makes it so. -/
inductive NotRow where
  /-- Format HR, unmapped address: completes and returns 0 (R72, R96). -/
  | unmappedRead (a : Addr)
  /-- Format HW, unmapped address: ignored (R73, R96). -/
  | unmappedWrite (a : Addr)
  /-- Format HW, a register whose access is R or RC: ignored (R73, R96). -/
  | readOnlyWrite (a : Addr)
  /-- Format HC, code 0x08 to 0xFF: executes as NOP (R96, R212). -/
  | reservedCommand (code : BitVec 8)
deriving DecidableEq, Repr

/-- Field `w`, bit 40 (R90). -/
def cwWrite (cw : CmdWord) : Bool := cw.getLsbD 40

/-- Field `addr`, bits 39:32 (R90). -/
def cwAddr (cw : CmdWord) : Addr := cw.extractLsb' 32 8

/-- Field `data`, bits 31:0 (R90). -/
def cwData (cw : CmdWord) : Word := cw.extractLsb' 0 32

/-- The read operation of each mapped address (R71, R91). -/
def decodeRead (a : Addr) : Option Instr :=
  match a with
  | 0x00#8 => some .rdCmd
  | 0x01#8 => some .rdStatus
  | 0x04#8 => some .rdNowUs
  | 0x05#8 => some .rdNowMs
  | 0x06#8 => some .rdEtUs
  | 0x07#8 => some .rdEtMs
  | 0x10#8 => some .rdB0Debounce
  | 0x11#8 => some .rdB0ClickMs
  | 0x12#8 => some .rdB0PressMs
  | 0x13#8 => some .rdB0DuringMs
  | 0x14#8 => some .rdB0IdleMs
  | 0x15#8 => some .rdB0TickMs
  | 0x16#8 => some .rdB0EvtEn
  | 0x17#8 => some .rdB0EvtStatus
  | 0x18#8 => some .rdB0State
  | 0x19#8 => some .rdB0Nclicks
  | 0x1A#8 => some .rdB0HoldMs
  | 0x1B#8 => some .rdB0Waspressed
  | 0x1C#8 => some .rdB0Wasreleased
  | 0x1D#8 => some .rdB0Dblclicked
  | 0x1E#8 => some .rdB0Time
  | 0x1F#8 => some .rdB0Maxclicks
  | 0x20#8 => some .rdB1Debounce
  | 0x21#8 => some .rdB1ClickMs
  | 0x22#8 => some .rdB1PressMs
  | 0x23#8 => some .rdB1DuringMs
  | 0x24#8 => some .rdB1IdleMs
  | 0x25#8 => some .rdB1TickMs
  | 0x26#8 => some .rdB1EvtEn
  | 0x27#8 => some .rdB1EvtStatus
  | 0x28#8 => some .rdB1State
  | 0x29#8 => some .rdB1Nclicks
  | 0x2A#8 => some .rdB1HoldMs
  | 0x2B#8 => some .rdB1Waspressed
  | 0x2C#8 => some .rdB1Wasreleased
  | 0x2D#8 => some .rdB1Dblclicked
  | 0x2E#8 => some .rdB1Time
  | 0x2F#8 => some .rdB1Maxclicks
  | 0x30#8 => some .rdJoyCtrl
  | 0x31#8 => some .rdAlpha
  | 0x32#8 => some .rdDeadzone
  | 0x33#8 => some .rdMoveEps
  | 0x34#8 => some .rdEnterTh
  | 0x35#8 => some .rdExitTh
  | 0x36#8 => some .rdRepeatMs
  | 0x37#8 => some .rdCalN
  | 0x38#8 => some .rdCalxMin
  | 0x39#8 => some .rdCalxCenter
  | 0x3A#8 => some .rdCalxMax
  | 0x3B#8 => some .rdCalyMin
  | 0x3C#8 => some .rdCalyCenter
  | 0x3D#8 => some .rdCalyMax
  | 0x3E#8 => some .rdJevtEn
  | 0x3F#8 => some .rdJevtStatus
  | 0x40#8 => some .rdRawx
  | 0x41#8 => some .rdRawy
  | 0x42#8 => some .rdNx
  | 0x43#8 => some .rdNy
  | 0x44#8 => some .rdMag
  | 0x45#8 => some .rdAngle
  | 0x46#8 => some .rdDir8
  | 0x47#8 => some .rdFiltx
  | 0x48#8 => some .rdFilty
  | _ => none

/-- The write operation of each address whose register is RW or W1C (R92). -/
def decodeWrite (a : Addr) (v : Word) : Option Instr :=
  match a with
  | 0x06#8 => some (.wrEtUs v)
  | 0x07#8 => some (.wrEtMs v)
  | 0x10#8 => some (.wrB0Debounce v)
  | 0x11#8 => some (.wrB0ClickMs v)
  | 0x12#8 => some (.wrB0PressMs v)
  | 0x13#8 => some (.wrB0DuringMs v)
  | 0x14#8 => some (.wrB0IdleMs v)
  | 0x15#8 => some (.wrB0TickMs v)
  | 0x16#8 => some (.wrB0EvtEn v)
  | 0x17#8 => some (.wrB0EvtStatus v)
  | 0x20#8 => some (.wrB1Debounce v)
  | 0x21#8 => some (.wrB1ClickMs v)
  | 0x22#8 => some (.wrB1PressMs v)
  | 0x23#8 => some (.wrB1DuringMs v)
  | 0x24#8 => some (.wrB1IdleMs v)
  | 0x25#8 => some (.wrB1TickMs v)
  | 0x26#8 => some (.wrB1EvtEn v)
  | 0x27#8 => some (.wrB1EvtStatus v)
  | 0x30#8 => some (.wrJoyCtrl v)
  | 0x31#8 => some (.wrAlpha v)
  | 0x32#8 => some (.wrDeadzone v)
  | 0x33#8 => some (.wrMoveEps v)
  | 0x34#8 => some (.wrEnterTh v)
  | 0x35#8 => some (.wrExitTh v)
  | 0x36#8 => some (.wrRepeatMs v)
  | 0x37#8 => some (.wrCalN v)
  | 0x38#8 => some (.wrCalxMin v)
  | 0x39#8 => some (.wrCalxCenter v)
  | 0x3A#8 => some (.wrCalxMax v)
  | 0x3B#8 => some (.wrCalyMin v)
  | 0x3C#8 => some (.wrCalyCenter v)
  | 0x3D#8 => some (.wrCalyMax v)
  | 0x3E#8 => some (.wrJevtEn v)
  | 0x3F#8 => some (.wrJevtStatus v)
  | _ => none

/-- The command of each defined code (R93, R94). -/
def decodeCommand (code : BitVec 8) : Option Instr :=
  match code with
  | 0x00#8 => some .nop
  | 0x01#8 => some .beginClock
  | 0x02#8 => some .bTick
  | 0x03#8 => some .jTick
  | 0x04#8 => some .bReset0
  | 0x05#8 => some .bReset1
  | 0x06#8 => some .calibrate
  | 0x07#8 => some .etReset
  | _ => none

/-- The operation of a command word, or the name of the reason it is no row of the table (R90 to R94, R96). -/
def decode (cw : CmdWord) : Except NotRow Instr :=
  if cwWrite cw then
    if cwAddr cw = 0x00#8 then
      match decodeCommand ((cwData cw).setWidth 8) with
      | some i => .ok i
      | none => .error (.reservedCommand ((cwData cw).setWidth 8))
    else
      match decodeWrite (cwAddr cw) (cwData cw) with
      | some i => .ok i
      | none =>
        match decodeRead (cwAddr cw) with
        | some _ => .error (.readOnlyWrite (cwAddr cw))
        | none => .error (.unmappedWrite (cwAddr cw))
  else
    match decodeRead (cwAddr cw) with
    | some i => .ok i
    | none => .error (.unmappedRead (cwAddr cw))

/-- The command word whose bits are the low 41 bits of `w`, of which the lowest `nbits` are given and the rest are 0: the
host port has 41 wires and no more (R90). -/
def tableWord (nbits w : Nat) : CmdWord := BitVec.ofNat 41 (w % 2 ^ nbits)

/-- The instruction the decoder reads from a word written as the opcode table numbers its bits. -/
def decodeTableWord (nbits w : Nat) : Option Instr :=
  match decode (tableWord nbits w) with
  | .ok i => some i
  | .error _ => none

/-- Format HR: `w` = 0, the ignored data bits 0 (R91). -/
def encodeRead (a : Addr) : CmdWord := a.setWidth 41 <<< 32

/-- Format HW: `w` = 1, `data` = `v` (R92). -/
def encodeWrite (a : Addr) (v : Word) : CmdWord := 1#41 <<< 40 ||| a.setWidth 41 <<< 32 ||| v.setWidth 41

/-- Format HC: `w` = 1, `addr` = 0, the ignored bits 31:8 equal to 0 (R93). -/
def encodeCommand (code : BitVec 8) : CmdWord := 1#41 <<< 40 ||| code.setWidth 41

/-- The command word of an operation, every ignored bit 0 (R90 to R94). -/
def encode (i : Instr) : CmdWord :=
  match i with
  | .rdCmd => encodeRead 0x00#8
  | .rdStatus => encodeRead 0x01#8
  | .rdNowUs => encodeRead 0x04#8
  | .rdNowMs => encodeRead 0x05#8
  | .rdEtUs => encodeRead 0x06#8
  | .rdEtMs => encodeRead 0x07#8
  | .rdB0Debounce => encodeRead 0x10#8
  | .rdB0ClickMs => encodeRead 0x11#8
  | .rdB0PressMs => encodeRead 0x12#8
  | .rdB0DuringMs => encodeRead 0x13#8
  | .rdB0IdleMs => encodeRead 0x14#8
  | .rdB0TickMs => encodeRead 0x15#8
  | .rdB0EvtEn => encodeRead 0x16#8
  | .rdB0EvtStatus => encodeRead 0x17#8
  | .rdB0State => encodeRead 0x18#8
  | .rdB0Nclicks => encodeRead 0x19#8
  | .rdB0HoldMs => encodeRead 0x1A#8
  | .rdB0Waspressed => encodeRead 0x1B#8
  | .rdB0Wasreleased => encodeRead 0x1C#8
  | .rdB0Dblclicked => encodeRead 0x1D#8
  | .rdB0Time => encodeRead 0x1E#8
  | .rdB0Maxclicks => encodeRead 0x1F#8
  | .rdB1Debounce => encodeRead 0x20#8
  | .rdB1ClickMs => encodeRead 0x21#8
  | .rdB1PressMs => encodeRead 0x22#8
  | .rdB1DuringMs => encodeRead 0x23#8
  | .rdB1IdleMs => encodeRead 0x24#8
  | .rdB1TickMs => encodeRead 0x25#8
  | .rdB1EvtEn => encodeRead 0x26#8
  | .rdB1EvtStatus => encodeRead 0x27#8
  | .rdB1State => encodeRead 0x28#8
  | .rdB1Nclicks => encodeRead 0x29#8
  | .rdB1HoldMs => encodeRead 0x2A#8
  | .rdB1Waspressed => encodeRead 0x2B#8
  | .rdB1Wasreleased => encodeRead 0x2C#8
  | .rdB1Dblclicked => encodeRead 0x2D#8
  | .rdB1Time => encodeRead 0x2E#8
  | .rdB1Maxclicks => encodeRead 0x2F#8
  | .rdJoyCtrl => encodeRead 0x30#8
  | .rdAlpha => encodeRead 0x31#8
  | .rdDeadzone => encodeRead 0x32#8
  | .rdMoveEps => encodeRead 0x33#8
  | .rdEnterTh => encodeRead 0x34#8
  | .rdExitTh => encodeRead 0x35#8
  | .rdRepeatMs => encodeRead 0x36#8
  | .rdCalN => encodeRead 0x37#8
  | .rdCalxMin => encodeRead 0x38#8
  | .rdCalxCenter => encodeRead 0x39#8
  | .rdCalxMax => encodeRead 0x3A#8
  | .rdCalyMin => encodeRead 0x3B#8
  | .rdCalyCenter => encodeRead 0x3C#8
  | .rdCalyMax => encodeRead 0x3D#8
  | .rdJevtEn => encodeRead 0x3E#8
  | .rdJevtStatus => encodeRead 0x3F#8
  | .rdRawx => encodeRead 0x40#8
  | .rdRawy => encodeRead 0x41#8
  | .rdNx => encodeRead 0x42#8
  | .rdNy => encodeRead 0x43#8
  | .rdMag => encodeRead 0x44#8
  | .rdAngle => encodeRead 0x45#8
  | .rdDir8 => encodeRead 0x46#8
  | .rdFiltx => encodeRead 0x47#8
  | .rdFilty => encodeRead 0x48#8
  | .wrEtUs v => encodeWrite 0x06#8 v
  | .wrEtMs v => encodeWrite 0x07#8 v
  | .wrB0Debounce v => encodeWrite 0x10#8 v
  | .wrB0ClickMs v => encodeWrite 0x11#8 v
  | .wrB0PressMs v => encodeWrite 0x12#8 v
  | .wrB0DuringMs v => encodeWrite 0x13#8 v
  | .wrB0IdleMs v => encodeWrite 0x14#8 v
  | .wrB0TickMs v => encodeWrite 0x15#8 v
  | .wrB0EvtEn v => encodeWrite 0x16#8 v
  | .wrB0EvtStatus v => encodeWrite 0x17#8 v
  | .wrB1Debounce v => encodeWrite 0x20#8 v
  | .wrB1ClickMs v => encodeWrite 0x21#8 v
  | .wrB1PressMs v => encodeWrite 0x22#8 v
  | .wrB1DuringMs v => encodeWrite 0x23#8 v
  | .wrB1IdleMs v => encodeWrite 0x24#8 v
  | .wrB1TickMs v => encodeWrite 0x25#8 v
  | .wrB1EvtEn v => encodeWrite 0x26#8 v
  | .wrB1EvtStatus v => encodeWrite 0x27#8 v
  | .wrJoyCtrl v => encodeWrite 0x30#8 v
  | .wrAlpha v => encodeWrite 0x31#8 v
  | .wrDeadzone v => encodeWrite 0x32#8 v
  | .wrMoveEps v => encodeWrite 0x33#8 v
  | .wrEnterTh v => encodeWrite 0x34#8 v
  | .wrExitTh v => encodeWrite 0x35#8 v
  | .wrRepeatMs v => encodeWrite 0x36#8 v
  | .wrCalN v => encodeWrite 0x37#8 v
  | .wrCalxMin v => encodeWrite 0x38#8 v
  | .wrCalxCenter v => encodeWrite 0x39#8 v
  | .wrCalxMax v => encodeWrite 0x3A#8 v
  | .wrCalyMin v => encodeWrite 0x3B#8 v
  | .wrCalyCenter v => encodeWrite 0x3C#8 v
  | .wrCalyMax v => encodeWrite 0x3D#8 v
  | .wrJevtEn v => encodeWrite 0x3E#8 v
  | .wrJevtStatus v => encodeWrite 0x3F#8 v
  | .nop => encodeCommand 0x00#8
  | .beginClock => encodeCommand 0x01#8
  | .bTick => encodeCommand 0x02#8
  | .jTick => encodeCommand 0x03#8
  | .bReset0 => encodeCommand 0x04#8
  | .bReset1 => encodeCommand 0x05#8
  | .calibrate => encodeCommand 0x06#8
  | .etReset => encodeCommand 0x07#8

/-- The bits of a command word that are fixed for the operation: the opcode table's `mask` (R91 to R93). -/
def fixedMask (i : Instr) : CmdWord :=
  match i with
  | .rdCmd => 0x1FF00000000#41
  | .rdStatus => 0x1FF00000000#41
  | .rdNowUs => 0x1FF00000000#41
  | .rdNowMs => 0x1FF00000000#41
  | .rdEtUs => 0x1FF00000000#41
  | .rdEtMs => 0x1FF00000000#41
  | .rdB0Debounce => 0x1FF00000000#41
  | .rdB0ClickMs => 0x1FF00000000#41
  | .rdB0PressMs => 0x1FF00000000#41
  | .rdB0DuringMs => 0x1FF00000000#41
  | .rdB0IdleMs => 0x1FF00000000#41
  | .rdB0TickMs => 0x1FF00000000#41
  | .rdB0EvtEn => 0x1FF00000000#41
  | .rdB0EvtStatus => 0x1FF00000000#41
  | .rdB0State => 0x1FF00000000#41
  | .rdB0Nclicks => 0x1FF00000000#41
  | .rdB0HoldMs => 0x1FF00000000#41
  | .rdB0Waspressed => 0x1FF00000000#41
  | .rdB0Wasreleased => 0x1FF00000000#41
  | .rdB0Dblclicked => 0x1FF00000000#41
  | .rdB0Time => 0x1FF00000000#41
  | .rdB0Maxclicks => 0x1FF00000000#41
  | .rdB1Debounce => 0x1FF00000000#41
  | .rdB1ClickMs => 0x1FF00000000#41
  | .rdB1PressMs => 0x1FF00000000#41
  | .rdB1DuringMs => 0x1FF00000000#41
  | .rdB1IdleMs => 0x1FF00000000#41
  | .rdB1TickMs => 0x1FF00000000#41
  | .rdB1EvtEn => 0x1FF00000000#41
  | .rdB1EvtStatus => 0x1FF00000000#41
  | .rdB1State => 0x1FF00000000#41
  | .rdB1Nclicks => 0x1FF00000000#41
  | .rdB1HoldMs => 0x1FF00000000#41
  | .rdB1Waspressed => 0x1FF00000000#41
  | .rdB1Wasreleased => 0x1FF00000000#41
  | .rdB1Dblclicked => 0x1FF00000000#41
  | .rdB1Time => 0x1FF00000000#41
  | .rdB1Maxclicks => 0x1FF00000000#41
  | .rdJoyCtrl => 0x1FF00000000#41
  | .rdAlpha => 0x1FF00000000#41
  | .rdDeadzone => 0x1FF00000000#41
  | .rdMoveEps => 0x1FF00000000#41
  | .rdEnterTh => 0x1FF00000000#41
  | .rdExitTh => 0x1FF00000000#41
  | .rdRepeatMs => 0x1FF00000000#41
  | .rdCalN => 0x1FF00000000#41
  | .rdCalxMin => 0x1FF00000000#41
  | .rdCalxCenter => 0x1FF00000000#41
  | .rdCalxMax => 0x1FF00000000#41
  | .rdCalyMin => 0x1FF00000000#41
  | .rdCalyCenter => 0x1FF00000000#41
  | .rdCalyMax => 0x1FF00000000#41
  | .rdJevtEn => 0x1FF00000000#41
  | .rdJevtStatus => 0x1FF00000000#41
  | .rdRawx => 0x1FF00000000#41
  | .rdRawy => 0x1FF00000000#41
  | .rdNx => 0x1FF00000000#41
  | .rdNy => 0x1FF00000000#41
  | .rdMag => 0x1FF00000000#41
  | .rdAngle => 0x1FF00000000#41
  | .rdDir8 => 0x1FF00000000#41
  | .rdFiltx => 0x1FF00000000#41
  | .rdFilty => 0x1FF00000000#41
  | .wrEtUs _ => 0x1FF00000000#41
  | .wrEtMs _ => 0x1FF00000000#41
  | .wrB0Debounce _ => 0x1FF00000000#41
  | .wrB0ClickMs _ => 0x1FF00000000#41
  | .wrB0PressMs _ => 0x1FF00000000#41
  | .wrB0DuringMs _ => 0x1FF00000000#41
  | .wrB0IdleMs _ => 0x1FF00000000#41
  | .wrB0TickMs _ => 0x1FF00000000#41
  | .wrB0EvtEn _ => 0x1FF00000000#41
  | .wrB0EvtStatus _ => 0x1FF00000000#41
  | .wrB1Debounce _ => 0x1FF00000000#41
  | .wrB1ClickMs _ => 0x1FF00000000#41
  | .wrB1PressMs _ => 0x1FF00000000#41
  | .wrB1DuringMs _ => 0x1FF00000000#41
  | .wrB1IdleMs _ => 0x1FF00000000#41
  | .wrB1TickMs _ => 0x1FF00000000#41
  | .wrB1EvtEn _ => 0x1FF00000000#41
  | .wrB1EvtStatus _ => 0x1FF00000000#41
  | .wrJoyCtrl _ => 0x1FF00000000#41
  | .wrAlpha _ => 0x1FF00000000#41
  | .wrDeadzone _ => 0x1FF00000000#41
  | .wrMoveEps _ => 0x1FF00000000#41
  | .wrEnterTh _ => 0x1FF00000000#41
  | .wrExitTh _ => 0x1FF00000000#41
  | .wrRepeatMs _ => 0x1FF00000000#41
  | .wrCalN _ => 0x1FF00000000#41
  | .wrCalxMin _ => 0x1FF00000000#41
  | .wrCalxCenter _ => 0x1FF00000000#41
  | .wrCalxMax _ => 0x1FF00000000#41
  | .wrCalyMin _ => 0x1FF00000000#41
  | .wrCalyCenter _ => 0x1FF00000000#41
  | .wrCalyMax _ => 0x1FF00000000#41
  | .wrJevtEn _ => 0x1FF00000000#41
  | .wrJevtStatus _ => 0x1FF00000000#41
  | .nop => 0x1FF000000FF#41
  | .beginClock => 0x1FF000000FF#41
  | .bTick => 0x1FF000000FF#41
  | .jTick => 0x1FF000000FF#41
  | .bReset0 => 0x1FF000000FF#41
  | .bReset1 => 0x1FF000000FF#41
  | .calibrate => 0x1FF000000FF#41
  | .etReset => 0x1FF000000FF#41

/-- The mnemonic of an operation, as the opcode table spells it (R91 to R94, R98). -/
def mnemonicOf (i : Instr) : String :=
  match i with
  | .rdCmd => "RD.CMD"
  | .rdStatus => "RD.STATUS"
  | .rdNowUs => "RD.NOW_US"
  | .rdNowMs => "RD.NOW_MS"
  | .rdEtUs => "RD.ET_US"
  | .rdEtMs => "RD.ET_MS"
  | .rdB0Debounce => "RD.B0_DEBOUNCE"
  | .rdB0ClickMs => "RD.B0_CLICK_MS"
  | .rdB0PressMs => "RD.B0_PRESS_MS"
  | .rdB0DuringMs => "RD.B0_DURING_MS"
  | .rdB0IdleMs => "RD.B0_IDLE_MS"
  | .rdB0TickMs => "RD.B0_TICK_MS"
  | .rdB0EvtEn => "RD.B0_EVT_EN"
  | .rdB0EvtStatus => "RD.B0_EVT_STATUS"
  | .rdB0State => "RD.B0_STATE"
  | .rdB0Nclicks => "RD.B0_NCLICKS"
  | .rdB0HoldMs => "RD.B0_HOLD_MS"
  | .rdB0Waspressed => "RD.B0_WASPRESSED"
  | .rdB0Wasreleased => "RD.B0_WASRELEASED"
  | .rdB0Dblclicked => "RD.B0_DBLCLICKED"
  | .rdB0Time => "RD.B0_TIME"
  | .rdB0Maxclicks => "RD.B0_MAXCLICKS"
  | .rdB1Debounce => "RD.B1_DEBOUNCE"
  | .rdB1ClickMs => "RD.B1_CLICK_MS"
  | .rdB1PressMs => "RD.B1_PRESS_MS"
  | .rdB1DuringMs => "RD.B1_DURING_MS"
  | .rdB1IdleMs => "RD.B1_IDLE_MS"
  | .rdB1TickMs => "RD.B1_TICK_MS"
  | .rdB1EvtEn => "RD.B1_EVT_EN"
  | .rdB1EvtStatus => "RD.B1_EVT_STATUS"
  | .rdB1State => "RD.B1_STATE"
  | .rdB1Nclicks => "RD.B1_NCLICKS"
  | .rdB1HoldMs => "RD.B1_HOLD_MS"
  | .rdB1Waspressed => "RD.B1_WASPRESSED"
  | .rdB1Wasreleased => "RD.B1_WASRELEASED"
  | .rdB1Dblclicked => "RD.B1_DBLCLICKED"
  | .rdB1Time => "RD.B1_TIME"
  | .rdB1Maxclicks => "RD.B1_MAXCLICKS"
  | .rdJoyCtrl => "RD.JOY_CTRL"
  | .rdAlpha => "RD.ALPHA"
  | .rdDeadzone => "RD.DEADZONE"
  | .rdMoveEps => "RD.MOVE_EPS"
  | .rdEnterTh => "RD.ENTER_TH"
  | .rdExitTh => "RD.EXIT_TH"
  | .rdRepeatMs => "RD.REPEAT_MS"
  | .rdCalN => "RD.CAL_N"
  | .rdCalxMin => "RD.CALX_MIN"
  | .rdCalxCenter => "RD.CALX_CENTER"
  | .rdCalxMax => "RD.CALX_MAX"
  | .rdCalyMin => "RD.CALY_MIN"
  | .rdCalyCenter => "RD.CALY_CENTER"
  | .rdCalyMax => "RD.CALY_MAX"
  | .rdJevtEn => "RD.JEVT_EN"
  | .rdJevtStatus => "RD.JEVT_STATUS"
  | .rdRawx => "RD.RAWX"
  | .rdRawy => "RD.RAWY"
  | .rdNx => "RD.NX"
  | .rdNy => "RD.NY"
  | .rdMag => "RD.MAG"
  | .rdAngle => "RD.ANGLE"
  | .rdDir8 => "RD.DIR8"
  | .rdFiltx => "RD.FILTX"
  | .rdFilty => "RD.FILTY"
  | .wrEtUs _ => "WR.ET_US"
  | .wrEtMs _ => "WR.ET_MS"
  | .wrB0Debounce _ => "WR.B0_DEBOUNCE"
  | .wrB0ClickMs _ => "WR.B0_CLICK_MS"
  | .wrB0PressMs _ => "WR.B0_PRESS_MS"
  | .wrB0DuringMs _ => "WR.B0_DURING_MS"
  | .wrB0IdleMs _ => "WR.B0_IDLE_MS"
  | .wrB0TickMs _ => "WR.B0_TICK_MS"
  | .wrB0EvtEn _ => "WR.B0_EVT_EN"
  | .wrB0EvtStatus _ => "WR.B0_EVT_STATUS"
  | .wrB1Debounce _ => "WR.B1_DEBOUNCE"
  | .wrB1ClickMs _ => "WR.B1_CLICK_MS"
  | .wrB1PressMs _ => "WR.B1_PRESS_MS"
  | .wrB1DuringMs _ => "WR.B1_DURING_MS"
  | .wrB1IdleMs _ => "WR.B1_IDLE_MS"
  | .wrB1TickMs _ => "WR.B1_TICK_MS"
  | .wrB1EvtEn _ => "WR.B1_EVT_EN"
  | .wrB1EvtStatus _ => "WR.B1_EVT_STATUS"
  | .wrJoyCtrl _ => "WR.JOY_CTRL"
  | .wrAlpha _ => "WR.ALPHA"
  | .wrDeadzone _ => "WR.DEADZONE"
  | .wrMoveEps _ => "WR.MOVE_EPS"
  | .wrEnterTh _ => "WR.ENTER_TH"
  | .wrExitTh _ => "WR.EXIT_TH"
  | .wrRepeatMs _ => "WR.REPEAT_MS"
  | .wrCalN _ => "WR.CAL_N"
  | .wrCalxMin _ => "WR.CALX_MIN"
  | .wrCalxCenter _ => "WR.CALX_CENTER"
  | .wrCalxMax _ => "WR.CALX_MAX"
  | .wrCalyMin _ => "WR.CALY_MIN"
  | .wrCalyCenter _ => "WR.CALY_CENTER"
  | .wrCalyMax _ => "WR.CALY_MAX"
  | .wrJevtEn _ => "WR.JEVT_EN"
  | .wrJevtStatus _ => "WR.JEVT_STATUS"
  | .nop => "NOP"
  | .beginClock => "BEGIN"
  | .bTick => "BTICK"
  | .jTick => "JTICK"
  | .bReset0 => "BRESET0"
  | .bReset1 => "BRESET1"
  | .calibrate => "CALIBRATE"
  | .etReset => "ETRESET"

end Sys2Proof
end

