-- ==== Sys2Proof/Config.lean ====
section
/-! DEFINITION. The parameters of rule R8: the constants the spec fixes, and the two it leaves OPEN (`CNT_BITS`,
`CNT_PER_US`, decision D10, U1), which are constants without a body, so that no proof can learn their value. -/

namespace Sys2Proof

/-- The two OPEN parameters (R8, R36). Each is held less one, so that the type itself says `1 <= CNT_BITS <= 32` and
`CNT_PER_US >= 1`. -/
structure Params where
  /-- `CNT_BITS - 1`. -/
  cntBitsLess1 : Fin 32
  /-- `CNT_PER_US - 1`. -/
  cntPerUsLess1 : Nat
deriving DecidableEq, Repr

/-- `CNT_BITS`: width of the free-running down-counter input `cnt_in` (R8). -/
def Params.cntBits (p : Params) : Nat := p.cntBitsLess1.val + 1

/-- `CNT_PER_US`: counts of `cnt_in` per microsecond (R8). -/
def Params.cntPerUs (p : Params) : Nat := p.cntPerUsLess1 + 1

/-- `CNT_BITS - 1` of the machine at hand: OPEN (R8, D10), no value is known here. -/
opaque Config.cntBitsLess1 : Fin 32

/-- `CNT_PER_US - 1` of the machine at hand: OPEN (R8, D10), no value is known here. -/
opaque Config.cntPerUsLess1 : Nat

/-- The parameters of the machine at hand (R8). -/
def Config.params : Params := ⟨Config.cntBitsLess1, Config.cntPerUsLess1⟩

/-- `ONE`: the fixed-point form of 1.0, 14 fraction bits (R8, R11). -/
def Config.one : Nat := 16384

/-- The value at which the click counter saturates (R8, R137, R142). -/
def Config.clickMax : Nat := 255

/-- The default of `max_clicks` (R8, R142). -/
def Config.clickDefault : Nat := 2

end Sys2Proof
end

