-- ==== Sys2Proof/Machine/State.lean ====
section
/-! DEFINITION. The state of the input-event engine (rules R20 to R34), the ways a step can stop, and the state after
hardware reset (R321). Names in the spec's `UPPER_CASE` are the fields of the `…Cfg` structures, names in `lower_case` the
fields beside them. The last four fields of `State` are the model's own: the parameters, the ports' values, the results of
the last operation, and the moves the environment has still to make. -/

namespace Sys2Proof.Machine

/-- Why a step would stop with a fault. There is no constructor: "No operation raises an exception" and "A model's step
function is total and has no error result" (R290). -/
inductive Fault where
deriving DecidableEq, Repr

/-- Why a step would be refused. -/
inductive Refusal where
  /-- Raised by `exec` for an operation whose meaning is not written yet. No operation is refused so in this model. Safe. -/
  | notModelled (mnemonic : String)
deriving DecidableEq, Repr

/-- The six states of a button's interaction state machine (R26; conflict C1: six, not seven). -/
inductive FsmState where
  | init
  | down
  | up
  | count
  | press
  | pressEnd
deriving DecidableEq, Repr

/-- The eight directions and Center (R33). -/
inductive Direction where
  | east
  | northEast
  | north
  | northWest
  | west
  | southWest
  | south
  | southEast
  | center
deriving DecidableEq, Repr

/-- MonotonicClock state `CLK` (R22). -/
structure Clock where
  /-- `clk_init`: BEGIN has run. -/
  clkInit : Bool
  /-- `last_cnt`, a number of `CNT_BITS` bits: the counter at the last clock update. -/
  lastCnt : Nat
  /-- `frac`, in `0..CNT_PER_US-1`: counts not yet making a whole microsecond. -/
  frac : Nat
  /-- `us_acc`: cumulative microseconds since BEGIN, modulo 2^64. -/
  usAcc : Micros
deriving DecidableEq, Repr

/-- Button configuration elements (R24). -/
structure ButtonCfg where
  /-- `DEBOUNCE`, two's complement. -/
  debounce : Duration
  /-- `CLICK_MS`. -/
  clickMs : Duration
  /-- `PRESS_MS`. -/
  pressMs : Duration
  /-- `DURING_MS`. -/
  duringMs : Duration
  /-- `IDLE_MS`. -/
  idleMs : Duration
  /-- `TICK_MS`. -/
  tickMs : Duration
  /-- `EVT_EN`, one bit per button event kind. -/
  evtEn : BitVec 9
deriving DecidableEq, Repr

/-- One ButtonFsm instance: its configuration (R24) and its dynamic elements (R25). -/
structure Button where
  /-- The configuration elements. -/
  cfg : ButtonCfg
  /-- `t`: the private time base. -/
  t : Millis
  /-- `last_raw`: the raw level seen at the previous tick. -/
  lastRaw : Bool
  /-- `last_change`: `t` when `last_raw` last changed. -/
  lastChange : Millis
  /-- `deb`: the debounced level. -/
  deb : Bool
  /-- `was_pressed`: latch of a raw rising edge. -/
  wasPressed : Bool
  /-- `was_released`: latch of a raw falling edge. -/
  wasReleased : Bool
  /-- `state`: the node of the interaction state machine. -/
  state : FsmState
  /-- `entry`: `t` when `state` was last entered. -/
  entry : Millis
  /-- `nclicks`: releases counted in the click sequence. -/
  nclicks : BitVec 8
  /-- `idle_fired`: the idle event has been due since the last `fsm_reset`. -/
  idleFired : Bool
  /-- `hold`: milliseconds spent in Down before the last release. -/
  hold : Millis
  /-- `dbl_pending`: the click count became 2. -/
  dblPending : Bool
  /-- `last_during`: `t` when the during-long-press event was last due. -/
  lastDuring : Millis
  /-- `EVT_STATUS`: sticky bit per event kind emitted. -/
  evtStatus : BitVec 9
deriving DecidableEq, Repr

/-- AxisCalibration of one axis, as written (R29). -/
structure Calib where
  /-- `CAL*_MIN`. -/
  min : Raw
  /-- `CAL*_CENTER`. -/
  center : Raw
  /-- `CAL*_MAX`. -/
  max : Raw
deriving DecidableEq, Repr

/-- AxisProcessor configuration elements (R29). -/
structure AxisCfg where
  /-- `INVX`. -/
  invX : Bool
  /-- `INVY`. -/
  invY : Bool
  /-- `SWAP`. -/
  swap : Bool
  /-- `XMAP`, 1 = mapped. -/
  xMap : Bool
  /-- `YMAP`, 1 = mapped. -/
  yMap : Bool
  /-- `ALPHA`, legal 0..16384. -/
  alpha : BitVec 15
  /-- `DEADZONE`. -/
  deadzone : BitVec 14
  /-- `CAL_N`, legal 1..255. -/
  calN : BitVec 8
  /-- `CALX_MIN`, `CALX_CENTER`, `CALX_MAX`. -/
  calX : Calib
  /-- `CALY_MIN`, `CALY_CENTER`, `CALY_MAX`. -/
  calY : Calib
deriving DecidableEq, Repr

/-- AxisProcessor `AX`: its configuration (R29) and its dynamic elements (R30). -/
structure Axis where
  /-- The configuration elements. -/
  cfg : AxisCfg
  /-- `rawx`. -/
  rawX : Raw
  /-- `rawy`. -/
  rawY : Raw
  /-- `fx`: IIR filter state. -/
  fx : Coord
  /-- `fy`: IIR filter state. -/
  fy : Coord
  /-- `nx`: post-deadzone output of the last JTICK. -/
  nx : Coord
  /-- `ny`: post-deadzone output of the last JTICK. -/
  ny : Coord
deriving DecidableEq, Repr

/-- DirectionEngine configuration elements (R31). -/
structure DirCfg where
  /-- `ENTER_TH`, legal 0..16384. -/
  enterTh : BitVec 15
  /-- `EXIT_TH`, legal 0..16384. -/
  exitTh : BitVec 15
  /-- `MOVE_EPS`. -/
  moveEps : BitVec 16
  /-- `REPEAT_MS`. -/
  repeatMs : Duration
  /-- `JEVT_EN`, one bit per joystick event kind. -/
  jevtEn : BitVec 6
deriving DecidableEq, Repr

/-- DirectionEngine `DE`: its configuration (R31) and its dynamic elements (R32). -/
structure DirEngine where
  /-- The configuration elements. -/
  cfg : DirCfg
  /-- `mag`: magnitude of `(nx, ny)` at the last JTICK. -/
  mag : BitVec 15
  /-- `ang`: angle of `(nx, ny)` at the last JTICK, in BAM. -/
  ang : BitVec 16
  /-- `cur_dir`: direction after the last JTICK. -/
  curDir : Direction
  /-- `prev_dir`: `cur_dir` before the last JTICK. -/
  prevDir : Direction
  /-- `tilt_active`: the stick is tilted. -/
  tiltActive : Bool
  /-- `lrx`: `nx` when the move condition last held. -/
  lrx : Coord
  /-- `lry`: `ny` when the move condition last held. -/
  lry : Coord
  /-- `last_repeat`: `now_us()` at tilt start or at the last repeat. -/
  lastRepeat : Micros
  /-- `JEVT_STATUS`: sticky bit per joystick event kind emitted. -/
  jevtStatus : BitVec 6
deriving DecidableEq, Repr

/-- The result of an operation (R90, R295): the word a read returns, and the event records emitted, in order. -/
structure Output where
  /-- `rdata`: the word a read returns; a write and a command return nothing. -/
  rdata : Option Word
  /-- The event records of the operation, in the order they leave the event port. -/
  events : List EventWord
deriving DecidableEq, Repr

/-- The machine: the units of R3, and the model's own fields. -/
structure State where
  /-- MonotonicClock (R22). -/
  clk : Clock
  /-- ElapsedTimer, `et_off` (R23). -/
  etOff : Micros
  /-- The standalone button (R24, R25). -/
  b0 : Button
  /-- The joystick's embedded button (R24, R25). -/
  b1 : Button
  /-- AxisProcessor (R29, R30). -/
  ax : Axis
  /-- DirectionEngine (R31, R32). -/
  de : DirEngine
  /-- The model's own: `CNT_BITS`, `CNT_PER_US` (R8, R36), which no step writes (log entry 1). -/
  par : Params
  /-- The model's own: the values on the input ports (R6, R60) for the operation at hand (log entry 2). -/
  ports : Ports
  /-- The model's own: the result of the last operation (R6, R295; log entry 3). -/
  out : Output
  /-- The model's own: the moves the host and `rst` make from here on, in order (R6, R78; log entry 2). -/
  moves : List Move
deriving DecidableEq, Repr

/-- A button's elements at reset (R321). -/
def Button.reset : Button where
  cfg :=
    { debounce := 50, clickMs := 400, pressMs := 800, duringMs := 0, idleMs := 1000, tickMs := 10, evtEn := 0 }
  t := 0
  lastRaw := false
  lastChange := 0
  deb := false
  wasPressed := false
  wasReleased := false
  state := .init
  entry := 0
  nclicks := 0
  idleFired := false
  hold := 0
  dblPending := false
  lastDuring := 0
  evtStatus := 0

/-- The AxisProcessor at reset (R321). -/
def Axis.reset : Axis where
  cfg :=
    { invX := false, invY := false, swap := false, xMap := true, yMap := true, alpha := 16384, deadzone := 0, calN := 32
      calX := { min := 0, center := 2048, max := 4095 }
      calY := { min := 0, center := 2048, max := 4095 } }
  rawX := 0
  rawY := 0
  fx := 0
  fy := 0
  nx := 0
  ny := 0

/-- The DirectionEngine at reset (R321). -/
def DirEngine.reset : DirEngine where
  cfg := { enterTh := 8192, exitTh := 4096, moveEps := 1, repeatMs := 250, jevtEn := 0 }
  mag := 0
  ang := 0
  curDir := .center
  prevDir := .center
  tiltActive := false
  lrx := 0
  lry := 0
  lastRepeat := 0
  jevtStatus := 0

/-- The state hardware reset leaves (R320, R321). The model's own fields: the parameters of the machine at hand, ports at
0, no result, no move (log entries 1 to 3). -/
def State.reset : State where
  clk := { clkInit := false, lastCnt := 0, frac := 0, usAcc := 0 }
  etOff := 0
  b0 := Button.reset
  b1 := Button.reset
  ax := Axis.reset
  de := DirEngine.reset
  par := Config.params
  ports := { cnt := 0, btn0 := false, btn1 := false, adcX := 0, adcY := 0, adcMore := [] }
  out := { rdata := none, events := [] }
  moves := []

end Sys2Proof.Machine
end

