-- ==== Sys2Proof/Machine/Event.lean ====
section
/-! DEFINITION. Event kinds and event records (R292, R295): what the block has where another machine has exceptions
(R290, R296). -/

namespace Sys2Proof.Machine

/-- The kinds of button events (R292). -/
inductive ButtonEvent where
  | press
  | release
  | click
  | doubleClick
  | multiClick
  | longPressStart
  | longPressStop
  | duringLongPress
  | idle
deriving DecidableEq, Repr

/-- The kinds of joystick events (R292). -/
inductive JoyEvent where
  | move
  | tiltStart
  | tiltStop
  | dirChanged
  | repeated
  | center
deriving DecidableEq, Repr

/-- Kind number of a button event: bit position in `EVT_EN` and `EVT_STATUS`, and `kind` field of the record (R292). -/
def ButtonEvent.kind : ButtonEvent → Nat
  | .press => 0
  | .release => 1
  | .click => 2
  | .doubleClick => 3
  | .multiClick => 4
  | .longPressStart => 5
  | .longPressStop => 6
  | .duringLongPress => 7
  | .idle => 8

/-- Kind number of a joystick event (R292). -/
def JoyEvent.kind : JoyEvent → Nat
  | .move => 0
  | .tiltStart => 1
  | .tiltStop => 2
  | .dirChanged => 3
  | .repeated => 4
  | .center => 5

/-- Unit number of a button (R292). -/
def buttonSrc : ButtonId → BitVec 4
  | .b0 => 0
  | .b1 => 1

/-- Unit number of the joystick (R292). -/
def joySrc : BitVec 4 := 2

/-- The 24-bit event record: `src` in bits 23:20, `kind` in 19:16, `arg` in 15:0 (R295). -/
def eventRecord (src kind : BitVec 4) (arg : BitVec 16) : EventWord :=
  src.setWidth 24 <<< 20 ||| kind.setWidth 24 <<< 16 ||| arg.setWidth 24

/-- The record of a button event (R292, R295). -/
def buttonRecord (u : ButtonId) (k : ButtonEvent) (arg : BitVec 16) : EventWord :=
  eventRecord (buttonSrc u) (BitVec.ofNat 4 k.kind) arg

/-- The record of a joystick event (R292, R295). -/
def joyRecord (k : JoyEvent) (arg : BitVec 16) : EventWord :=
  eventRecord joySrc (BitVec.ofNat 4 k.kind) arg

end Sys2Proof.Machine
end

