-- ==== Sys2Proof/Machine/Flags.lean ====
section
/-! DEFINITION. Flags (R28): how a status bit is set by an event and cleared by the host (R293, R294), the raw-edge latches
(R132), and the single-bit readings of a button's state (R147, R238). The block has no condition codes. -/

namespace Sys2Proof.Machine

/-- `v[k]` as a flag. -/
def bitOf {n : Nat} (v : BitVec n) (k : Nat) : Bool := v.getLsbD k

/-- `ST[k] <- 1` (R293). -/
def setStatus {n : Nat} (st : BitVec n) (k : Nat) : BitVec n := st ||| BitVec.twoPow n k

/-- Write-1-to-clear: `ST <- ST and not v` (R237, R265, R294). -/
def clearStatus {n : Nat} (st v : BitVec n) : BitVec n := st &&& ~~~v

/-- Raw-edge latches, decided on the raw level of this tick and of the previous one, before the debounce filter (R132). -/
def latchEdges (lvl : Bool) (b : Button) : Button :=
  { b with
    wasPressed := b.wasPressed || (lvl && !b.lastRaw)
    wasReleased := b.wasReleased || (!lvl && b.lastRaw) }

/-- `ISIDLE`: `state` = Init (R147, R238). -/
def isIdle (b : Button) : Bool := b.state == .init

/-- `ISLONG`: `state` = Press (R147, R238). -/
def isLong (b : Button) : Bool := b.state == .press

/-- `max_clicks(B)`: 255 with MULTICLICK enabled, else 2 (R142). -/
def maxClicks (b : Button) : BitVec 8 :=
  if bitOf b.cfg.evtEn ButtonEvent.multiClick.kind then BitVec.ofNat 8 Config.clickMax
  else BitVec.ofNat 8 Config.clickDefault

end Sys2Proof.Machine
end

