-- ==== Sys2Proof/Machine/Operands.lean ====
section
/-! DEFINITION. Operands: the arithmetic primitives (R10), operand assembly between write data, stored values and read data
(R95), the register codes of the enumerated elements (R26, R33), and the sampling of the input ports (R60, R97). -/

namespace Sys2Proof.Machine

/-! Primitives (R10). `fdiv` is natural-number division, `udiff_N` is bit-vector subtraction. -/

/-- `tdiv(a, b)`, `b > 0`: division truncating toward zero (R10). -/
def tdiv (a b : Int) : Int := if 0 ≤ a then a / b else -(-a / b)

/-- `clamp(v, lo, hi)` (R10). -/
def clamp (v lo hi : Int) : Int := min (max v lo) hi

/-- `isqrt` one result bit at a time: `k` bits are still to be found below the `r` found so far. -/
def isqrtBits : Nat → Nat → Nat → Nat
  | 0, _, r => r
  | k + 1, n, r => if (r + 2 ^ k) * (r + 2 ^ k) ≤ n then isqrtBits k n (r + 2 ^ k) else isqrtBits k n r

/-- `isqrt(n)`: the `r` with `r*r <= n < (r+1)*(r+1)` (R10). -/
def isqrt (n : Nat) : Nat := isqrtBits (n.log2 / 2 + 1) n 0

/-- `isqrt(x*x + y*y)` (R176, R190). -/
def vectorLength (x y : Int) : Nat := isqrt (x * x + y * y).toNat

/-! Operand assembly (R95). -/

/-- `zext_32` (R9). -/
def zext32 {n : Nat} (v : BitVec n) : Word := v.setWidth 32

/-- `sext_32` (R9). -/
def sext32 {n : Nat} (v : BitVec n) : Word := v.signExtend 32

/-- One bit as a 32-bit word. -/
def bit32 (b : Bool) : Word := if b then 1 else 0

/-- `v[n-1:0]`, the plain write of an element of width `n` (R9, R221). -/
def lowBits (n : Nat) (v : Word) : BitVec n := v.setWidth n

/-- `min(v[15:0], limit)` in `n` bits: the clamp on a write of `ALPHA`, `DEADZONE`, `ENTER_TH`, `EXIT_TH` (R95). -/
def clampWrite (n limit : Nat) (v : Word) : BitVec n := BitVec.ofNat n (min (v.toNat % 2 ^ 16) limit)

/-- `max(v[7:0], 1)`: the write of `CAL_N` (R95, R257). -/
def calNWrite (v : Word) : BitVec 8 := BitVec.ofNat 8 (max (v.toNat % 2 ^ 8) 1)

/-- A signed element of width 16 written with an integer in its range (R10, R30). -/
def coord (v : Int) : Coord := BitVec.ofInt 16 v

/-- The code of a button state (R26). -/
def FsmState.code : FsmState → BitVec 3
  | .init => 0
  | .down => 1
  | .up => 2
  | .count => 3
  | .press => 4
  | .pressEnd => 5

/-- The code of a direction (R33). -/
def Direction.code : Direction → BitVec 4
  | .east => 0
  | .northEast => 1
  | .north => 2
  | .northWest => 3
  | .west => 4
  | .southWest => 5
  | .south => 6
  | .southEast => 7
  | .center => 8

/-! Port sampling (R12, R60, R97). -/

/-- `sample(cnt_in)`: the `CNT_BITS` bits the port carries (R60). -/
def sampleCnt (s : State) : Nat := s.ports.cnt % 2 ^ s.par.cntBits

/-- The pairs `n` acquisitions in a row see: the pair on the ports now, then the listed ones, then the last one held. -/
def acquireFrom : Nat → Raw × Raw → List (Raw × Raw) → List (Raw × Raw)
  | 0, _, _ => []
  | n + 1, p, [] => p :: acquireFrom n p []
  | n + 1, p, q :: qs => p :: acquireFrom n q qs

/-- The `n` pairs `(adc_x, adc_y)` an operation acquires, in order (R97, R211). -/
def acquire (n : Nat) (p : Ports) : List (Raw × Raw) := acquireFrom n (p.adcX, p.adcY) p.adcMore

end Sys2Proof.Machine
end

