-- ==== Sys2Proof/Machine/Ops.lean ====
section
/-! DEFINITION. The operations the meanings share: how an operation completes and what it returns (R6, R90, R295), `emit`
(R293), the clock (R110, R111), and hardware reset (R320). There is no exception to take and none to return from (R290,
R300): `emit` is the one thing that stands in that place, and it transfers no control (R299). There is no memory beside the
register space (R70); its accesses are the meanings of the register operations. -/

namespace Sys2Proof.Machine

/-! Completion. -/

/-- An operation completes with read data `v` and no event. -/
def returnData (v : Word) (s : State) : Host.Outcome State Fault Refusal :=
  .next { s with out := { rdata := some v, events := [] } }

/-- An operation completes with neither read data nor events. -/
def returnNothing (s : State) : Host.Outcome State Fault Refusal :=
  .next { s with out := { rdata := none, events := [] } }

/-- A tick completes with the event records it emitted, in order. -/
def returnEvents (ev : List EventWord) (s : State) : Host.Outcome State Fault Refusal :=
  .next { s with out := { rdata := none, events := ev } }

/-! Events. A unit in the course of a tick is paired with the records emitted so far. -/

/-- `emit(B, k, arg)` (R293): the status bit and the record if the kind is enabled, else nothing at all. -/
def emitButton (u : ButtonId) (k : ButtonEvent) (arg : BitVec 16) (r : Button × List EventWord) :
    Button × List EventWord :=
  if bitOf r.1.cfg.evtEn k.kind then
    ({ r.1 with evtStatus := setStatus r.1.evtStatus k.kind }, r.2 ++ [buttonRecord u k arg])
  else r

/-- `emit(JOY, k, arg)` (R293). -/
def emitJoy (k : JoyEvent) (arg : BitVec 16) (r : DirEngine × List EventWord) : DirEngine × List EventWord :=
  if bitOf r.1.cfg.jevtEn k.kind then
    ({ r.1 with jevtStatus := setStatus r.1.jevtStatus k.kind }, r.2 ++ [joyRecord k arg])
  else r

/-! The clock. -/

/-- Counts the down-counter moved between two samples, `(last_cnt - cnt) mod 2^CNT_BITS` (R110). -/
def counterDelta (bits last cnt : Nat) : Nat := (((last : Int) - (cnt : Int)) % ((2 ^ bits : Nat) : Int)).toNat

/-- `clock_update(cnt)` (R110). -/
def clockUpdate (p : Params) (cnt : Nat) (c : Clock) : Clock :=
  if c.clkInit then
    { c with
      usAcc := c.usAcc + BitVec.ofNat 64 ((c.frac + counterDelta p.cntBits c.lastCnt cnt) / p.cntPerUs)
      frac := (c.frac + counterDelta p.cntBits c.lastCnt cnt) % p.cntPerUs
      lastCnt := cnt }
  else c

/-- The clock update of an operation that samples `cnt_in` (R97, R110). -/
def updateClock (s : State) : State := { s with clk := clockUpdate s.par (sampleCnt s) s.clk }

/-- `now_us()`: `us_acc`, and 0 before BEGIN (R111). -/
def nowUs (c : Clock) : Micros := if c.clkInit then c.usAcc else 0

/-- Whole milliseconds of a number of microseconds, `fdiv(us, 1000)` (R111). -/
def wholeMs (us : Micros) : Nat := us.toNat / 1000

/-! Hardware reset. -/

/-- `rst` asserted and released: every state element takes its reset value, whatever the ports carry, and nothing is
returned or emitted (R320, R321). -/
def hardwareReset (s : State) : State :=
  { State.reset with par := s.par, ports := s.ports, moves := s.moves }

end Sys2Proof.Machine
end

