-- ==== Sys2Proof/Machine/Clock.lean ====
section
/-! DEFINITION. Time family (R110 to R123): the clock commands, and the reads and writes of the clock and timer registers.
No operation of this family raises an exception or emits an event. -/

namespace Sys2Proof.Machine

/-- The elapsed time of `ET`, `udiff_64(now_us(), et_off)`, and 0 before BEGIN (R118, R119). -/
def elapsedUs (s : State) : Micros := if s.clk.clkInit then nowUs s.clk - s.etOff else 0

/-- `ET` assigned the duration `d` in microseconds, on the clock as it stands (R116, R117). -/
def assignElapsed (d : Nat) (s : State) : State := { s with etOff := nowUs s.clk - BitVec.ofNat 64 d }

/-- What BEGIN makes of the clock: started at the sample, once; a later BEGIN changes nothing (R112, R337). -/
def beginAt (cnt : Nat) (c : Clock) : Clock :=
  if c.clkInit then c else { clkInit := true, lastCnt := cnt, frac := 0, usAcc := 0 }

/-- `BEGIN` (R112). -/
def execBeginClock (s : State) : Host.Outcome State Fault Refusal :=
  returnNothing { s with clk := beginAt (sampleCnt s) s.clk }

/-- `ETRESET` (R115). -/
def execEtReset (s : State) : Host.Outcome State Fault Refusal :=
  returnNothing { updateClock s with etOff := nowUs (updateClock s).clk }

/-- `RD.NOW_US` (R113). -/
def execRdNowUs (s : State) : Host.Outcome State Fault Refusal :=
  returnData ((nowUs (updateClock s).clk).setWidth 32) (updateClock s)

/-- `RD.NOW_MS` (R114): the millisecond count is taken on the 64-bit value. -/
def execRdNowMs (s : State) : Host.Outcome State Fault Refusal :=
  returnData (BitVec.ofNat 32 (wholeMs (nowUs (updateClock s).clk))) (updateClock s)

/-- `RD.ET_US` (R118). -/
def execRdEtUs (s : State) : Host.Outcome State Fault Refusal :=
  returnData ((elapsedUs (updateClock s)).setWidth 32) (updateClock s)

/-- `RD.ET_MS` (R119). -/
def execRdEtMs (s : State) : Host.Outcome State Fault Refusal :=
  returnData (BitVec.ofNat 32 (wholeMs (elapsedUs (updateClock s)))) (updateClock s)

/-- `WR.ET_US` (R116). -/
def execWrEtUs (v : Word) (s : State) : Host.Outcome State Fault Refusal :=
  returnNothing (assignElapsed v.toNat (updateClock s))

/-- `WR.ET_MS` (R117). -/
def execWrEtMs (v : Word) (s : State) : Host.Outcome State Fault Refusal :=
  returnNothing (assignElapsed (1000 * v.toNat) (updateClock s))

end Sys2Proof.Machine
end

