-- ==== Sys2Proof/Machine/Axis.lean ====
section
/-! DEFINITION. Axis family (R170 to R178): sampling, calibration mapping, inversion, IIR smoothing and the radial
deadzone, in exact integer arithmetic (R10, R11). -/

namespace Sys2Proof.Machine

/-- A physical channel delivers 0 when it is not mapped (R171). -/
def channel (mapped : Bool) (v : Raw) : Raw := if mapped then v else 0

/-- `axis_sample(ax_in, ay_in)`: the logical raw pair (R170). -/
def axisSample (c : AxisCfg) (p : Raw × Raw) : Raw × Raw :=
  if c.swap then (channel c.yMap p.2, channel c.xMap p.1) else (channel c.xMap p.1, channel c.yMap p.2)

/-- `emin` of the effective calibration (R172). -/
def calMin (c : Calib) : Nat := min c.min.toNat c.max.toNat

/-- `emax` of the effective calibration (R172). -/
def calMax (c : Calib) : Nat := max c.min.toNat c.max.toNat

/-- `ec` of the effective calibration: a centre outside the range is replaced by the midpoint, rounded down (R172). -/
def calCenter (c : Calib) : Nat :=
  if calMin c ≤ c.center.toNat ∧ c.center.toNat ≤ calMax c then c.center.toNat else (calMin c + calMax c) / 2

/-- A zero span counts as 1 (R173). -/
def guardSpan (n : Int) : Int := if n = 0 then 1 else n

/-- `normalize(raw, (emin, ec, emax))` before the final clamp: the magnitude is computed first and negated second (R173). -/
def normalizeRaw (raw emin ec emax : Int) : Int :=
  if ec ≤ raw then tdiv ((raw - ec) * Config.one) (guardSpan (emax - ec))
  else -tdiv ((ec - raw) * Config.one) (guardSpan (ec - emin))

/-- `normalize(raw, ecal(...))` (R173). -/
def normalize (raw : Raw) (c : Calib) : Int :=
  clamp (normalizeRaw raw.toNat (calMin c) (calCenter c) (calMax c)) (-Config.one) Config.one

/-- Optional sign inversion (R174). -/
def invert (inv : Bool) (v : Int) : Int := if inv then -v else v

/-- IIR filter step of one axis, sample `s`, state `f` (R175). -/
def smooth (alpha : Nat) (s f : Int) : Int :=
  tdiv ((alpha : Int) * s + ((Config.one : Int) - (alpha : Int)) * f) Config.one

/-- The rescaled magnitude `m` of a vector of length `r` outside the deadzone `dz` (R176). -/
def rescaled (dz r : Int) : Int := min (tdiv ((r - dz) * Config.one) ((Config.one : Int) - dz)) Config.one

/-- `deadzone(fx, fy)` with radius `dz` (R176). -/
def deadzone (dz : Nat) (fx fy : Int) : Int × Int :=
  let r := vectorLength fx fy
  if r ≤ dz then (0, 0) else (tdiv (fx * rescaled dz r) r, tdiv (fy * rescaled dz r) r)

/-- `axis_step` up to the filter: calibration mapping, inversion, smoothing (R178). -/
def axisFilter (p : Raw × Raw) (a : Axis) : Axis :=
  { a with
    rawX := p.1
    rawY := p.2
    fx := coord (smooth a.cfg.alpha.toNat (invert a.cfg.invX (normalize p.1 a.cfg.calX)) a.fx.toInt)
    fy := coord (smooth a.cfg.alpha.toNat (invert a.cfg.invY (normalize p.2 a.cfg.calY)) a.fy.toInt) }

/-- The last line of `axis_step`: the deadzone, on the new filter state (R178). -/
def axisDeadzone (a : Axis) : Axis :=
  { a with
    nx := coord (deadzone a.cfg.deadzone.toNat a.fx.toInt a.fy.toInt).1
    ny := coord (deadzone a.cfg.deadzone.toNat a.fx.toInt a.fy.toInt).2 }

/-- `axis_step(rx, ry)` (R178). -/
def axisStep (p : Raw × Raw) (a : Axis) : Axis := axisDeadzone (axisFilter p a)

end Sys2Proof.Machine
end

