-- ==== Sys2Proof/Machine/Button.lean ====
section
/-! DEFINITION. Button family (R130 to R147): the debounce filter, the interaction state machine, and the button
commands. The functions take the button and the records emitted so far in the tick, and give both back. -/

namespace Sys2Proof.Machine

/-- `udiff_32(B.t, stamp)` (R131). -/
def since (b : Button) (stamp : Millis) : Nat := (b.t - stamp).toNat

/-- The time base advances by `TICK_MS` modulo 2^32 (R131). -/
def advanceTime (b : Button) : Button := { b with t := b.t + b.cfg.tickMs.setWidth 32 }

/-- The interval the debounce filter compares with, `abs(sext16(DEBOUNCE))` (R133). -/
def debounceInterval (b : Button) : Nat := b.cfg.debounce.toInt.natAbs

/-- Negative mode: an active raw level is adopted at once (R133). -/
def debounceRising (lvl : Bool) (b : Button) : Button :=
  if b.cfg.debounce.toInt < 0 ∧ lvl = true then { b with deb := true } else b

/-- The rest of the debounce filter: a stable level is adopted after the interval, a change restarts the timer (R133). -/
def debounceStable (lvl : Bool) (b : Button) : Button :=
  if lvl = b.lastRaw then
    if debounceInterval b ≤ since b b.lastChange then { b with deb := lvl } else b
  else { b with lastChange := b.t, lastRaw := lvl }

/-- Debounce filter (R133). -/
def debounce (lvl : Bool) (b : Button) : Button := debounceStable lvl (debounceRising lvl b)

/-- A change of state restamps `entry` (R134). -/
def enterState (st : FsmState) (b : Button) : Button := { b with state := st, entry := b.t }

/-- `fsm_reset(B)` (R141). -/
def fsmReset (b : Button) : Button :=
  { b with state := .init, entry := b.t, nclicks := 0, idleFired := false, hold := 0 }

/-- State Init, first row: the idle event is due once per stay (R135). `e` is the elapsed time in the state. -/
def initIdle (u : ButtonId) (e : Nat) (r : Button × List EventWord) : Button × List EventWord :=
  if r.1.idleFired = false ∧ r.1.cfg.idleMs.toNat ≤ e then
    emitButton u .idle 0 ({ r.1 with idleFired := true }, r.2)
  else r

/-- State Init, second row: a press begins a sequence (R135). -/
def initPress (u : ButtonId) (r : Button × List EventWord) : Button × List EventWord :=
  if r.1.deb then emitButton u .press 0 ({ enterState .down r.1 with nclicks := 0 }, r.2) else r

/-- State Init: both rows, in order (R135). -/
def stepInit (u : ButtonId) (e : Nat) (r : Button × List EventWord) : Button × List EventWord :=
  initPress u (initIdle u e r)

/-- State Down (R136). -/
def stepDown (u : ButtonId) (e : Nat) (r : Button × List EventWord) : Button × List EventWord :=
  if r.1.deb = false then
    emitButton u .release 0 ({ enterState .up r.1 with hold := BitVec.ofNat 32 e }, r.2)
  else if r.1.cfg.pressMs.toNat < e then
    emitButton u .longPressStart 0 ({ enterState .press r.1 with lastDuring := r.1.t }, r.2)
  else r

/-- The click count after one more release, saturating (R137). -/
def nextClicks (b : Button) : BitVec 8 := BitVec.ofNat 8 (min (b.nclicks.toNat + 1) Config.clickMax)

/-- State Up, unconditional (R137). -/
def stepUp (r : Button × List EventWord) : Button × List EventWord :=
  ({ enterState .count r.1 with
      nclicks := nextClicks r.1
      dblPending := r.1.dblPending || (nextClicks r.1 == 2#8) }, r.2)

/-- The event that ends a click sequence, by count (R138). -/
def clickEvent (n : BitVec 8) : ButtonEvent :=
  if n = 1#8 then .click else if n = 2#8 then .doubleClick else .multiClick

/-- State Count (R138). -/
def stepCount (u : ButtonId) (e : Nat) (r : Button × List EventWord) : Button × List EventWord :=
  if r.1.deb then (enterState .down r.1, r.2)
  else if r.1.cfg.clickMs.toNat ≤ e ∨ r.1.nclicks = maxClicks r.1 then
    let r' := emitButton u (clickEvent r.1.nclicks) (r.1.nclicks.setWidth 16) r
    (fsmReset r'.1, r'.2)
  else r

/-- State Press (R139). -/
def stepPress (u : ButtonId) (r : Button × List EventWord) : Button × List EventWord :=
  if r.1.deb = false then (enterState .pressEnd r.1, r.2)
  else if r.1.cfg.duringMs.toNat ≤ since r.1 r.1.lastDuring then
    let r' := emitButton u .duringLongPress 0 r
    ({ r'.1 with lastDuring := r'.1.t }, r'.2)
  else r

/-- State PressEnd, unconditional and without a guard (R140). -/
def stepPressEnd (u : ButtonId) (r : Button × List EventWord) : Button × List EventWord :=
  let r' := emitButton u .longPressStop 0 r
  (fsmReset r'.1, r'.2)

/-- One evaluation of the state machine, on the state held at this moment (R134). -/
def evaluate (u : ButtonId) (b : Button) : Button × List EventWord :=
  match b.state with
  | .init => stepInit u (since b b.entry) (b, [])
  | .down => stepDown u (since b b.entry) (b, [])
  | .up => stepUp (b, [])
  | .count => stepCount u (since b b.entry) (b, [])
  | .press => stepPress u (b, [])
  | .pressEnd => stepPressEnd u (b, [])

/-- `button_tick(B, lvl)`: time base, raw-edge latches, debounce filter, state machine (R130). -/
def buttonTick (u : ButtonId) (lvl : Bool) (b : Button) : Button × List EventWord :=
  evaluate u (debounce lvl (latchEdges lvl (advanceTime b)))

/-- `BTICK` (R144). -/
def execBTick (s : State) : Host.Outcome State Fault Refusal :=
  returnEvents (buttonTick .b0 s.ports.btn0 s.b0).2 { s with b0 := (buttonTick .b0 s.ports.btn0 s.b0).1 }

/-- `BRESET0` (R145). -/
def execBReset0 (s : State) : Host.Outcome State Fault Refusal :=
  returnNothing { s with b0 := fsmReset s.b0 }

/-- `BRESET1` (R145). -/
def execBReset1 (s : State) : Host.Outcome State Fault Refusal :=
  returnNothing { s with b1 := fsmReset s.b1 }

end Sys2Proof.Machine
end

