-- ==== Sys2Proof/Machine/Direction.lean ====
section
/-! DEFINITION. Direction family (R190 to R203): polar form, 8-way quantization, hysteresis, joystick events. -/

namespace Sys2Proof.Machine

/-- The binary digits of the angle of the vector `(x, y)` as a fraction of the full turn, `k` of them, appended to `acc`.
The first digit says whether the angle lies in the lower half-plane (or on its closed west end); squaring the complex number
`x + iy` doubles the angle and so brings the next digit to the front. Exact integer arithmetic, so the floor of R193 is
exact. -/
def angleDigits : Nat → Int → Int → Nat → Nat
  | 0, _, _, acc => acc
  | k + 1, x, y, acc =>
    angleDigits k (x * x - y * y) (2 * x * y) (2 * acc + if y < 0 ∨ (y = 0 ∧ x < 0) then 1 else 0)

/-- `angle_bam(x, y)`: the angle counter-clockwise from East in units of 1/65536 turn, rounded down; 0 for the zero vector
(R193). -/
def angleBam (x y : Int) : Nat := if x = 0 ∧ y = 0 then 0 else angleDigits 16 x y 0

/-- `octant(x, y)` (R191). -/
def octant (x y : Int) : Direction :=
  if x = 0 ∧ y = 0 then .east
  else if (|x| + |y|) * (|x| + |y|) < 2 * |x| * |x| then if 0 < x then .east else .west
  else if (|x| + |y|) * (|x| + |y|) < 2 * |y| * |y| then if 0 < y then .north else .south
  else if 0 < y then if 0 < x then .northEast else .northWest
  else if 0 < x then .southEast else .southWest

/-- Polar form of the vector (R190, R193). -/
def polar (x y : Int) (d : DirEngine) : DirEngine :=
  { d with mag := BitVec.ofNat 15 (vectorLength x y), ang := BitVec.ofNat 16 (angleBam x y) }

/-- `exit_eff`, which keeps the exit threshold at or below the enter threshold (R194). -/
def exitEff (d : DirEngine) : Nat := min d.cfg.exitTh.toNat d.cfg.enterTh.toNat

/-- `start`: a tilt starts on this tick; read before the tilt decision is stored (R194). -/
def tiltStarts (d : DirEngine) : Bool := !d.tiltActive && decide (d.cfg.enterTh.toNat ≤ d.mag.toNat)

/-- `stop`: a tilt stops on this tick; read before the tilt decision is stored (R194). -/
def tiltStops (d : DirEngine) : Bool := d.tiltActive && decide (d.mag.toNat ≤ exitEff d)

/-- The tilt decision stored (R194). -/
def decideTilt (d : DirEngine) : DirEngine :=
  { d with tiltActive := if tiltStops d then false else if tiltStarts d then true else d.tiltActive }

/-- The direction of this tick, after the tilt decision (R195). -/
def decideDirection (x y : Int) (d : DirEngine) : DirEngine :=
  { d with prevDir := d.curDir, curDir := if d.tiltActive then octant x y else .center }

/-- TILT_START (R196). -/
def emitTiltStart (start : Bool) (now : Micros) (r : DirEngine × List EventWord) : DirEngine × List EventWord :=
  if start then emitJoy .tiltStart 0 ({ r.1 with lastRepeat := now }, r.2) else r

/-- DIR_CHANGED (R197). -/
def emitDirChanged (r : DirEngine × List EventWord) : DirEngine × List EventWord :=
  if r.1.tiltActive = true ∧ r.1.curDir ≠ r.1.prevDir then emitJoy .dirChanged (r.1.curDir.code.setWidth 16) r else r

/-- The MOVE condition: a coordinate changed by `MOVE_EPS` or more since last reported (R198). -/
def moved (x y : Int) (d : DirEngine) : Bool :=
  decide ((d.cfg.moveEps.toNat : Int) ≤ |x - d.lrx.toInt|) || decide ((d.cfg.moveEps.toNat : Int) ≤ |y - d.lry.toInt|)

/-- MOVE (R198). -/
def emitMove (nx ny : Coord) (r : DirEngine × List EventWord) : DirEngine × List EventWord :=
  if moved nx.toInt ny.toInt r.1 then emitJoy .move 0 ({ r.1 with lrx := nx, lry := ny }, r.2) else r

/-- The REPEAT condition (R199). -/
def repeatDue (now : Micros) (d : DirEngine) : Bool :=
  decide (d.curDir ≠ .center) && decide (d.cfg.repeatMs.toNat ≤ wholeMs (now - d.lastRepeat))

/-- REPEAT (R199). -/
def emitRepeat (now : Micros) (r : DirEngine × List EventWord) : DirEngine × List EventWord :=
  if repeatDue now r.1 then emitJoy .repeated 0 ({ r.1 with lastRepeat := now }, r.2) else r

/-- TILT_STOP and CENTER (R200). -/
def emitTiltStop (stop : Bool) (r : DirEngine × List EventWord) : DirEngine × List EventWord :=
  if stop then emitJoy .center 0 (emitJoy .tiltStop 0 r) else r

/-- The events of the tick, in their order (R196 to R200). -/
def directionEvents (start stop : Bool) (now : Micros) (nx ny : Coord) (d : DirEngine) : DirEngine × List EventWord :=
  emitTiltStop stop (emitRepeat now (emitMove nx ny (emitDirChanged (emitTiltStart start now (d, [])))))

/-- `direction_step(now)` on the vector the axis step has just written (R201). -/
def directionStep (now : Micros) (nx ny : Coord) (d : DirEngine) : DirEngine × List EventWord :=
  let p := polar nx.toInt ny.toInt d
  directionEvents (tiltStarts p) (tiltStops p) now nx ny (decideDirection nx.toInt ny.toInt (decideTilt p))

end Sys2Proof.Machine
end

