-- ==== Sys2Proof/Machine/Joystick.lean ====
section
/-! DEFINITION. Joystick family (R210 to R212): the composed tick, the centre calibration, NOP. -/

namespace Sys2Proof.Machine

/-- The axis processor after steps 2 and 3 of JTICK (R210). -/
def joyAxis (s : State) : Axis := axisStep (axisSample s.ax.cfg (s.ports.adcX, s.ports.adcY)) s.ax

/-- The direction engine and its events after step 4 of JTICK; `now` is read from the clock brought up to date (R210). -/
def joyDirection (s : State) : DirEngine × List EventWord :=
  directionStep (nowUs (updateClock s).clk) (joyAxis s).nx (joyAxis s).ny s.de

/-- The embedded button and its events after step 5 of JTICK (R210). -/
def joyButton (s : State) : Button × List EventWord := buttonTick .b1 s.ports.btn1 s.b1

/-- `JTICK` (R210): joystick events precede `B1` events. -/
def execJTick (s : State) : Host.Outcome State Fault Refusal :=
  returnEvents ((joyDirection s).2 ++ (joyButton s).2)
    { updateClock s with ax := joyAxis s, de := (joyDirection s).1, b1 := (joyButton s).1 }

/-- The logical pairs CALIBRATE acquires (R211). -/
def calSamples (s : State) : List (Raw × Raw) :=
  (acquire s.ax.cfg.calN.toNat s.ports).map (axisSample s.ax.cfg)

/-- The average of the samples of one axis over `CAL_N`, rounded down (R211). -/
def calAverage (n : Nat) (vs : List Raw) : Raw := BitVec.ofNat 12 ((vs.map BitVec.toNat).sum / n)

/-- The axis configuration with the centres CALIBRATE stores (R211). -/
def calibrated (s : State) : AxisCfg :=
  { s.ax.cfg with
    calX := { s.ax.cfg.calX with center := calAverage s.ax.cfg.calN.toNat ((calSamples s).map Prod.fst) }
    calY := { s.ax.cfg.calY with center := calAverage s.ax.cfg.calN.toNat ((calSamples s).map Prod.snd) } }

/-- `CALIBRATE` (R211). -/
def execCalibrate (s : State) : Host.Outcome State Fault Refusal :=
  returnNothing { s with ax := { s.ax with cfg := calibrated s } }

/-- `NOP` (R212). -/
def execNop (s : State) : Host.Outcome State Fault Refusal := returnNothing s

end Sys2Proof.Machine
end

