-- ==== Sys2Proof/Machine/RegRead.lean ====
section
/-! DEFINITION. Register reads (R220 to R274), but for the four clock and timer registers (Machine/Clock.lean). A read
returns the register's word and changes nothing, except that `WASPRESSED`, `WASRELEASED` and `DBLCLICKED` clear the flag
they return (R77, R80). -/

namespace Sys2Proof.Machine

/-- The word of `B<i>_STATE`: `{ISLONG, ISIDLE, IDLEFIRED, RAW, DEB, state[2:0]}` (R238). -/
def stateWord (b : Button) : Word :=
  zext32 (BitVec.ofBool (isLong b) ++ BitVec.ofBool (isIdle b) ++ BitVec.ofBool b.idleFired ++ BitVec.ofBool b.lastRaw
    ++ BitVec.ofBool b.deb ++ b.state.code)

/-- The word of `JOY_CTRL`: `{YMAP, XMAP, SWAP, INVY, INVX}` (R250). -/
def joyCtrlWord (c : AxisCfg) : Word :=
  zext32 (BitVec.ofBool c.yMap ++ BitVec.ofBool c.xMap ++ BitVec.ofBool c.swap ++ BitVec.ofBool c.invY
    ++ BitVec.ofBool c.invX)

/-- The word of `DIR8`: `{tilt_active, prev_dir[3:0], cur_dir[3:0]}` (R272). -/
def dir8Word (d : DirEngine) : Word :=
  zext32 (BitVec.ofBool d.tiltActive ++ d.prevDir.code ++ d.curDir.code)

/-- `B.was_pressed <- 0` (R241). -/
def clearPressed (b : Button) : Button := { b with wasPressed := false }

/-- `B.was_released <- 0` (R242). -/
def clearReleased (b : Button) : Button := { b with wasReleased := false }

/-- `B.dbl_pending <- 0` (R243). -/
def clearDouble (b : Button) : Button := { b with dblPending := false }

/-- `RD.CMD`: write-only: reads 0 and runs nothing (R222). -/
def execRdCmd (s : State) : Host.Outcome State Fault Refusal :=
  returnData 0 s

/-- `RD.STATUS`: bit 0 is `clk_init`; no clock update (R223). -/
def execRdStatus (s : State) : Host.Outcome State Fault Refusal :=
  returnData (bit32 s.clk.clkInit) s

/-- `RD.B0_DEBOUNCE`: sign-extended (R230). -/
def execRdB0Debounce (s : State) : Host.Outcome State Fault Refusal :=
  returnData (sext32 s.b0.cfg.debounce) s

/-- `RD.B0_CLICK_MS` (R231). -/
def execRdB0ClickMs (s : State) : Host.Outcome State Fault Refusal :=
  returnData (zext32 s.b0.cfg.clickMs) s

/-- `RD.B0_PRESS_MS` (R232). -/
def execRdB0PressMs (s : State) : Host.Outcome State Fault Refusal :=
  returnData (zext32 s.b0.cfg.pressMs) s

/-- `RD.B0_DURING_MS` (R233). -/
def execRdB0DuringMs (s : State) : Host.Outcome State Fault Refusal :=
  returnData (zext32 s.b0.cfg.duringMs) s

/-- `RD.B0_IDLE_MS` (R234). -/
def execRdB0IdleMs (s : State) : Host.Outcome State Fault Refusal :=
  returnData (zext32 s.b0.cfg.idleMs) s

/-- `RD.B0_TICK_MS` (R235). -/
def execRdB0TickMs (s : State) : Host.Outcome State Fault Refusal :=
  returnData (zext32 s.b0.cfg.tickMs) s

/-- `RD.B0_EVT_EN` (R236). -/
def execRdB0EvtEn (s : State) : Host.Outcome State Fault Refusal :=
  returnData (zext32 s.b0.cfg.evtEn) s

/-- `RD.B0_EVT_STATUS` (R237). -/
def execRdB0EvtStatus (s : State) : Host.Outcome State Fault Refusal :=
  returnData (zext32 s.b0.evtStatus) s

/-- `RD.B0_STATE` (R238). -/
def execRdB0State (s : State) : Host.Outcome State Fault Refusal :=
  returnData (stateWord s.b0) s

/-- `RD.B0_NCLICKS` (R239). -/
def execRdB0Nclicks (s : State) : Host.Outcome State Fault Refusal :=
  returnData (zext32 s.b0.nclicks) s

/-- `RD.B0_HOLD_MS` (R240). -/
def execRdB0HoldMs (s : State) : Host.Outcome State Fault Refusal :=
  returnData s.b0.hold s

/-- `RD.B0_WASPRESSED`: read and clear (R241). -/
def execRdB0Waspressed (s : State) : Host.Outcome State Fault Refusal :=
  returnData (bit32 s.b0.wasPressed) { s with b0 := clearPressed s.b0 }

/-- `RD.B0_WASRELEASED`: read and clear (R242). -/
def execRdB0Wasreleased (s : State) : Host.Outcome State Fault Refusal :=
  returnData (bit32 s.b0.wasReleased) { s with b0 := clearReleased s.b0 }

/-- `RD.B0_DBLCLICKED`: read and clear (R243). -/
def execRdB0Dblclicked (s : State) : Host.Outcome State Fault Refusal :=
  returnData (bit32 s.b0.dblPending) { s with b0 := clearDouble s.b0 }

/-- `RD.B0_TIME` (R244). -/
def execRdB0Time (s : State) : Host.Outcome State Fault Refusal :=
  returnData s.b0.t s

/-- `RD.B0_MAXCLICKS` (R245). -/
def execRdB0Maxclicks (s : State) : Host.Outcome State Fault Refusal :=
  returnData (zext32 (maxClicks s.b0)) s

/-- `RD.B1_DEBOUNCE`: sign-extended (R230). -/
def execRdB1Debounce (s : State) : Host.Outcome State Fault Refusal :=
  returnData (sext32 s.b1.cfg.debounce) s

/-- `RD.B1_CLICK_MS` (R231). -/
def execRdB1ClickMs (s : State) : Host.Outcome State Fault Refusal :=
  returnData (zext32 s.b1.cfg.clickMs) s

/-- `RD.B1_PRESS_MS` (R232). -/
def execRdB1PressMs (s : State) : Host.Outcome State Fault Refusal :=
  returnData (zext32 s.b1.cfg.pressMs) s

/-- `RD.B1_DURING_MS` (R233). -/
def execRdB1DuringMs (s : State) : Host.Outcome State Fault Refusal :=
  returnData (zext32 s.b1.cfg.duringMs) s

/-- `RD.B1_IDLE_MS` (R234). -/
def execRdB1IdleMs (s : State) : Host.Outcome State Fault Refusal :=
  returnData (zext32 s.b1.cfg.idleMs) s

/-- `RD.B1_TICK_MS` (R235). -/
def execRdB1TickMs (s : State) : Host.Outcome State Fault Refusal :=
  returnData (zext32 s.b1.cfg.tickMs) s

/-- `RD.B1_EVT_EN` (R236). -/
def execRdB1EvtEn (s : State) : Host.Outcome State Fault Refusal :=
  returnData (zext32 s.b1.cfg.evtEn) s

/-- `RD.B1_EVT_STATUS` (R237). -/
def execRdB1EvtStatus (s : State) : Host.Outcome State Fault Refusal :=
  returnData (zext32 s.b1.evtStatus) s

/-- `RD.B1_STATE` (R238). -/
def execRdB1State (s : State) : Host.Outcome State Fault Refusal :=
  returnData (stateWord s.b1) s

/-- `RD.B1_NCLICKS` (R239). -/
def execRdB1Nclicks (s : State) : Host.Outcome State Fault Refusal :=
  returnData (zext32 s.b1.nclicks) s

/-- `RD.B1_HOLD_MS` (R240). -/
def execRdB1HoldMs (s : State) : Host.Outcome State Fault Refusal :=
  returnData s.b1.hold s

/-- `RD.B1_WASPRESSED`: read and clear (R241). -/
def execRdB1Waspressed (s : State) : Host.Outcome State Fault Refusal :=
  returnData (bit32 s.b1.wasPressed) { s with b1 := clearPressed s.b1 }

/-- `RD.B1_WASRELEASED`: read and clear (R242). -/
def execRdB1Wasreleased (s : State) : Host.Outcome State Fault Refusal :=
  returnData (bit32 s.b1.wasReleased) { s with b1 := clearReleased s.b1 }

/-- `RD.B1_DBLCLICKED`: read and clear (R243). -/
def execRdB1Dblclicked (s : State) : Host.Outcome State Fault Refusal :=
  returnData (bit32 s.b1.dblPending) { s with b1 := clearDouble s.b1 }

/-- `RD.B1_TIME` (R244). -/
def execRdB1Time (s : State) : Host.Outcome State Fault Refusal :=
  returnData s.b1.t s

/-- `RD.B1_MAXCLICKS` (R245). -/
def execRdB1Maxclicks (s : State) : Host.Outcome State Fault Refusal :=
  returnData (zext32 (maxClicks s.b1)) s

/-- `RD.JOY_CTRL` (R250). -/
def execRdJoyCtrl (s : State) : Host.Outcome State Fault Refusal :=
  returnData (joyCtrlWord s.ax.cfg) s

/-- `RD.ALPHA` (R251). -/
def execRdAlpha (s : State) : Host.Outcome State Fault Refusal :=
  returnData (zext32 s.ax.cfg.alpha) s

/-- `RD.DEADZONE` (R252). -/
def execRdDeadzone (s : State) : Host.Outcome State Fault Refusal :=
  returnData (zext32 s.ax.cfg.deadzone) s

/-- `RD.MOVE_EPS` (R253). -/
def execRdMoveEps (s : State) : Host.Outcome State Fault Refusal :=
  returnData (zext32 s.de.cfg.moveEps) s

/-- `RD.ENTER_TH` (R254). -/
def execRdEnterTh (s : State) : Host.Outcome State Fault Refusal :=
  returnData (zext32 s.de.cfg.enterTh) s

/-- `RD.EXIT_TH`: the stored value, not `exit_eff` (R255). -/
def execRdExitTh (s : State) : Host.Outcome State Fault Refusal :=
  returnData (zext32 s.de.cfg.exitTh) s

/-- `RD.REPEAT_MS` (R256). -/
def execRdRepeatMs (s : State) : Host.Outcome State Fault Refusal :=
  returnData (zext32 s.de.cfg.repeatMs) s

/-- `RD.CAL_N` (R257). -/
def execRdCalN (s : State) : Host.Outcome State Fault Refusal :=
  returnData (zext32 s.ax.cfg.calN) s

/-- `RD.CALX_MIN`: the effective minimum (R258). -/
def execRdCalxMin (s : State) : Host.Outcome State Fault Refusal :=
  returnData (BitVec.ofNat 32 (calMin s.ax.cfg.calX)) s

/-- `RD.CALX_CENTER`: the effective centre (R259). -/
def execRdCalxCenter (s : State) : Host.Outcome State Fault Refusal :=
  returnData (BitVec.ofNat 32 (calCenter s.ax.cfg.calX)) s

/-- `RD.CALX_MAX`: the effective maximum (R260). -/
def execRdCalxMax (s : State) : Host.Outcome State Fault Refusal :=
  returnData (BitVec.ofNat 32 (calMax s.ax.cfg.calX)) s

/-- `RD.CALY_MIN`: the effective minimum (R261). -/
def execRdCalyMin (s : State) : Host.Outcome State Fault Refusal :=
  returnData (BitVec.ofNat 32 (calMin s.ax.cfg.calY)) s

/-- `RD.CALY_CENTER`: the effective centre (R262). -/
def execRdCalyCenter (s : State) : Host.Outcome State Fault Refusal :=
  returnData (BitVec.ofNat 32 (calCenter s.ax.cfg.calY)) s

/-- `RD.CALY_MAX`: the effective maximum (R263). -/
def execRdCalyMax (s : State) : Host.Outcome State Fault Refusal :=
  returnData (BitVec.ofNat 32 (calMax s.ax.cfg.calY)) s

/-- `RD.JEVT_EN` (R264). -/
def execRdJevtEn (s : State) : Host.Outcome State Fault Refusal :=
  returnData (zext32 s.de.cfg.jevtEn) s

/-- `RD.JEVT_STATUS` (R265). -/
def execRdJevtStatus (s : State) : Host.Outcome State Fault Refusal :=
  returnData (zext32 s.de.jevtStatus) s

/-- `RD.RAWX` (R266). -/
def execRdRawx (s : State) : Host.Outcome State Fault Refusal :=
  returnData (zext32 s.ax.rawX) s

/-- `RD.RAWY` (R267). -/
def execRdRawy (s : State) : Host.Outcome State Fault Refusal :=
  returnData (zext32 s.ax.rawY) s

/-- `RD.NX` (R268). -/
def execRdNx (s : State) : Host.Outcome State Fault Refusal :=
  returnData (sext32 s.ax.nx) s

/-- `RD.NY` (R269). -/
def execRdNy (s : State) : Host.Outcome State Fault Refusal :=
  returnData (sext32 s.ax.ny) s

/-- `RD.MAG` (R270). -/
def execRdMag (s : State) : Host.Outcome State Fault Refusal :=
  returnData (zext32 s.de.mag) s

/-- `RD.ANGLE` (R271). -/
def execRdAngle (s : State) : Host.Outcome State Fault Refusal :=
  returnData (zext32 s.de.ang) s

/-- `RD.DIR8` (R272). -/
def execRdDir8 (s : State) : Host.Outcome State Fault Refusal :=
  returnData (dir8Word s.de) s

/-- `RD.FILTX` (R273). -/
def execRdFiltx (s : State) : Host.Outcome State Fault Refusal :=
  returnData (sext32 s.ax.fx) s

/-- `RD.FILTY` (R274). -/
def execRdFilty (s : State) : Host.Outcome State Fault Refusal :=
  returnData (sext32 s.ax.fy) s

end Sys2Proof.Machine
end

