-- ==== Sys2Proof/Machine/RegWrite.lean ====
section
/-! DEFINITION. Register writes (R221, R230 to R265), but for `ET_US` and `ET_MS` (Machine/Clock.lean). A write stores the
fields R95 names and changes nothing else: no timestamp is rebased, no state machine reset, no flag cleared unless the rule
says so (R221). The corrections are the clamps of R95. -/

namespace Sys2Proof.Machine

/-- A write that changes the configuration of `B0`. -/
def writeB0 (f : ButtonCfg → ButtonCfg) (s : State) : Host.Outcome State Fault Refusal :=
  returnNothing { s with b0 := { s.b0 with cfg := f s.b0.cfg } }

/-- A write that changes the configuration of `B1`. -/
def writeB1 (f : ButtonCfg → ButtonCfg) (s : State) : Host.Outcome State Fault Refusal :=
  returnNothing { s with b1 := { s.b1 with cfg := f s.b1.cfg } }

/-- A write that changes the configuration of the axis processor. -/
def writeAxis (f : AxisCfg → AxisCfg) (s : State) : Host.Outcome State Fault Refusal :=
  returnNothing { s with ax := { s.ax with cfg := f s.ax.cfg } }

/-- A write that changes the configuration of the direction engine. -/
def writeDir (f : DirCfg → DirCfg) (s : State) : Host.Outcome State Fault Refusal :=
  returnNothing { s with de := { s.de with cfg := f s.de.cfg } }

/-- The joystick control bits of a write (R250). -/
def setJoyCtrl (v : Word) (c : AxisCfg) : AxisCfg :=
  { c with invX := bitOf v 0, invY := bitOf v 1, swap := bitOf v 2, xMap := bitOf v 3, yMap := bitOf v 4 }

/-- `WR.B0_DEBOUNCE`: two's complement (R230). -/
def execWrB0Debounce (v : Word) (s : State) : Host.Outcome State Fault Refusal :=
  writeB0 (fun c => { c with debounce := lowBits 16 v }) s

/-- `WR.B0_CLICK_MS` (R231). -/
def execWrB0ClickMs (v : Word) (s : State) : Host.Outcome State Fault Refusal :=
  writeB0 (fun c => { c with clickMs := lowBits 16 v }) s

/-- `WR.B0_PRESS_MS` (R232). -/
def execWrB0PressMs (v : Word) (s : State) : Host.Outcome State Fault Refusal :=
  writeB0 (fun c => { c with pressMs := lowBits 16 v }) s

/-- `WR.B0_DURING_MS` (R233). -/
def execWrB0DuringMs (v : Word) (s : State) : Host.Outcome State Fault Refusal :=
  writeB0 (fun c => { c with duringMs := lowBits 16 v }) s

/-- `WR.B0_IDLE_MS` (R234). -/
def execWrB0IdleMs (v : Word) (s : State) : Host.Outcome State Fault Refusal :=
  writeB0 (fun c => { c with idleMs := lowBits 16 v }) s

/-- `WR.B0_TICK_MS` (R235). -/
def execWrB0TickMs (v : Word) (s : State) : Host.Outcome State Fault Refusal :=
  writeB0 (fun c => { c with tickMs := lowBits 16 v }) s

/-- `WR.B0_EVT_EN` (R236). -/
def execWrB0EvtEn (v : Word) (s : State) : Host.Outcome State Fault Refusal :=
  writeB0 (fun c => { c with evtEn := lowBits 9 v }) s

/-- `WR.B0_EVT_STATUS`: write 1 to clear (R237). -/
def execWrB0EvtStatus (v : Word) (s : State) : Host.Outcome State Fault Refusal :=
  returnNothing { s with b0 := { s.b0 with evtStatus := clearStatus s.b0.evtStatus (lowBits 9 v) } }

/-- `WR.B1_DEBOUNCE`: two's complement (R230). -/
def execWrB1Debounce (v : Word) (s : State) : Host.Outcome State Fault Refusal :=
  writeB1 (fun c => { c with debounce := lowBits 16 v }) s

/-- `WR.B1_CLICK_MS` (R231). -/
def execWrB1ClickMs (v : Word) (s : State) : Host.Outcome State Fault Refusal :=
  writeB1 (fun c => { c with clickMs := lowBits 16 v }) s

/-- `WR.B1_PRESS_MS` (R232). -/
def execWrB1PressMs (v : Word) (s : State) : Host.Outcome State Fault Refusal :=
  writeB1 (fun c => { c with pressMs := lowBits 16 v }) s

/-- `WR.B1_DURING_MS` (R233). -/
def execWrB1DuringMs (v : Word) (s : State) : Host.Outcome State Fault Refusal :=
  writeB1 (fun c => { c with duringMs := lowBits 16 v }) s

/-- `WR.B1_IDLE_MS` (R234). -/
def execWrB1IdleMs (v : Word) (s : State) : Host.Outcome State Fault Refusal :=
  writeB1 (fun c => { c with idleMs := lowBits 16 v }) s

/-- `WR.B1_TICK_MS` (R235). -/
def execWrB1TickMs (v : Word) (s : State) : Host.Outcome State Fault Refusal :=
  writeB1 (fun c => { c with tickMs := lowBits 16 v }) s

/-- `WR.B1_EVT_EN` (R236). -/
def execWrB1EvtEn (v : Word) (s : State) : Host.Outcome State Fault Refusal :=
  writeB1 (fun c => { c with evtEn := lowBits 9 v }) s

/-- `WR.B1_EVT_STATUS`: write 1 to clear (R237). -/
def execWrB1EvtStatus (v : Word) (s : State) : Host.Outcome State Fault Refusal :=
  returnNothing { s with b1 := { s.b1 with evtStatus := clearStatus s.b1.evtStatus (lowBits 9 v) } }

/-- `WR.JOY_CTRL` (R250). -/
def execWrJoyCtrl (v : Word) (s : State) : Host.Outcome State Fault Refusal :=
  writeAxis (setJoyCtrl v) s

/-- `WR.ALPHA`: clamped to `ONE` (R251). -/
def execWrAlpha (v : Word) (s : State) : Host.Outcome State Fault Refusal :=
  writeAxis (fun c => { c with alpha := clampWrite 15 16384 v }) s

/-- `WR.DEADZONE`: clamped to `ONE - 1` (R252). -/
def execWrDeadzone (v : Word) (s : State) : Host.Outcome State Fault Refusal :=
  writeAxis (fun c => { c with deadzone := clampWrite 14 16383 v }) s

/-- `WR.MOVE_EPS` (R253). -/
def execWrMoveEps (v : Word) (s : State) : Host.Outcome State Fault Refusal :=
  writeDir (fun c => { c with moveEps := lowBits 16 v }) s

/-- `WR.ENTER_TH`: clamped to `ONE` (R254). -/
def execWrEnterTh (v : Word) (s : State) : Host.Outcome State Fault Refusal :=
  writeDir (fun c => { c with enterTh := clampWrite 15 16384 v }) s

/-- `WR.EXIT_TH`: clamped to `ONE` (R255). -/
def execWrExitTh (v : Word) (s : State) : Host.Outcome State Fault Refusal :=
  writeDir (fun c => { c with exitTh := clampWrite 15 16384 v }) s

/-- `WR.REPEAT_MS` (R256). -/
def execWrRepeatMs (v : Word) (s : State) : Host.Outcome State Fault Refusal :=
  writeDir (fun c => { c with repeatMs := lowBits 16 v }) s

/-- `WR.CAL_N`: 0 stores 1 (R257). -/
def execWrCalN (v : Word) (s : State) : Host.Outcome State Fault Refusal :=
  writeAxis (fun c => { c with calN := calNWrite v }) s

/-- `WR.CALX_MIN`: stored as written (R258). -/
def execWrCalxMin (v : Word) (s : State) : Host.Outcome State Fault Refusal :=
  writeAxis (fun c => { c with calX := { c.calX with min := lowBits 12 v } }) s

/-- `WR.CALX_CENTER`: stored as written (R259). -/
def execWrCalxCenter (v : Word) (s : State) : Host.Outcome State Fault Refusal :=
  writeAxis (fun c => { c with calX := { c.calX with center := lowBits 12 v } }) s

/-- `WR.CALX_MAX`: stored as written (R260). -/
def execWrCalxMax (v : Word) (s : State) : Host.Outcome State Fault Refusal :=
  writeAxis (fun c => { c with calX := { c.calX with max := lowBits 12 v } }) s

/-- `WR.CALY_MIN`: stored as written (R261). -/
def execWrCalyMin (v : Word) (s : State) : Host.Outcome State Fault Refusal :=
  writeAxis (fun c => { c with calY := { c.calY with min := lowBits 12 v } }) s

/-- `WR.CALY_CENTER`: stored as written (R262). -/
def execWrCalyCenter (v : Word) (s : State) : Host.Outcome State Fault Refusal :=
  writeAxis (fun c => { c with calY := { c.calY with center := lowBits 12 v } }) s

/-- `WR.CALY_MAX`: stored as written (R263). -/
def execWrCalyMax (v : Word) (s : State) : Host.Outcome State Fault Refusal :=
  writeAxis (fun c => { c with calY := { c.calY with max := lowBits 12 v } }) s

/-- `WR.JEVT_EN` (R264). -/
def execWrJevtEn (v : Word) (s : State) : Host.Outcome State Fault Refusal :=
  writeDir (fun c => { c with jevtEn := lowBits 6 v }) s

/-- `WR.JEVT_STATUS`: write 1 to clear (R265). -/
def execWrJevtStatus (v : Word) (s : State) : Host.Outcome State Fault Refusal :=
  returnNothing { s with de := { s.de with jevtStatus := clearStatus s.de.jevtStatus (lowBits 6 v) } }

end Sys2Proof.Machine
end

