-- ==== Sys2Proof/Machine/Dispatch.lean ====
section
/-! DEFINITION. The meaning of every host operation (R7): one arm per constructor, each one call of a definition of its
own. -/

namespace Sys2Proof.Machine

/-- The operation `i` performed in `s` (R6). -/
def exec (i : Instr) (s : State) : Host.Outcome State Fault Refusal :=
  match i with
  | .rdCmd => Sys2Proof.Machine.execRdCmd s
  | .rdStatus => Sys2Proof.Machine.execRdStatus s
  | .rdNowUs => Sys2Proof.Machine.execRdNowUs s
  | .rdNowMs => Sys2Proof.Machine.execRdNowMs s
  | .rdEtUs => Sys2Proof.Machine.execRdEtUs s
  | .rdEtMs => Sys2Proof.Machine.execRdEtMs s
  | .rdB0Debounce => Sys2Proof.Machine.execRdB0Debounce s
  | .rdB0ClickMs => Sys2Proof.Machine.execRdB0ClickMs s
  | .rdB0PressMs => Sys2Proof.Machine.execRdB0PressMs s
  | .rdB0DuringMs => Sys2Proof.Machine.execRdB0DuringMs s
  | .rdB0IdleMs => Sys2Proof.Machine.execRdB0IdleMs s
  | .rdB0TickMs => Sys2Proof.Machine.execRdB0TickMs s
  | .rdB0EvtEn => Sys2Proof.Machine.execRdB0EvtEn s
  | .rdB0EvtStatus => Sys2Proof.Machine.execRdB0EvtStatus s
  | .rdB0State => Sys2Proof.Machine.execRdB0State s
  | .rdB0Nclicks => Sys2Proof.Machine.execRdB0Nclicks s
  | .rdB0HoldMs => Sys2Proof.Machine.execRdB0HoldMs s
  | .rdB0Waspressed => Sys2Proof.Machine.execRdB0Waspressed s
  | .rdB0Wasreleased => Sys2Proof.Machine.execRdB0Wasreleased s
  | .rdB0Dblclicked => Sys2Proof.Machine.execRdB0Dblclicked s
  | .rdB0Time => Sys2Proof.Machine.execRdB0Time s
  | .rdB0Maxclicks => Sys2Proof.Machine.execRdB0Maxclicks s
  | .rdB1Debounce => Sys2Proof.Machine.execRdB1Debounce s
  | .rdB1ClickMs => Sys2Proof.Machine.execRdB1ClickMs s
  | .rdB1PressMs => Sys2Proof.Machine.execRdB1PressMs s
  | .rdB1DuringMs => Sys2Proof.Machine.execRdB1DuringMs s
  | .rdB1IdleMs => Sys2Proof.Machine.execRdB1IdleMs s
  | .rdB1TickMs => Sys2Proof.Machine.execRdB1TickMs s
  | .rdB1EvtEn => Sys2Proof.Machine.execRdB1EvtEn s
  | .rdB1EvtStatus => Sys2Proof.Machine.execRdB1EvtStatus s
  | .rdB1State => Sys2Proof.Machine.execRdB1State s
  | .rdB1Nclicks => Sys2Proof.Machine.execRdB1Nclicks s
  | .rdB1HoldMs => Sys2Proof.Machine.execRdB1HoldMs s
  | .rdB1Waspressed => Sys2Proof.Machine.execRdB1Waspressed s
  | .rdB1Wasreleased => Sys2Proof.Machine.execRdB1Wasreleased s
  | .rdB1Dblclicked => Sys2Proof.Machine.execRdB1Dblclicked s
  | .rdB1Time => Sys2Proof.Machine.execRdB1Time s
  | .rdB1Maxclicks => Sys2Proof.Machine.execRdB1Maxclicks s
  | .rdJoyCtrl => Sys2Proof.Machine.execRdJoyCtrl s
  | .rdAlpha => Sys2Proof.Machine.execRdAlpha s
  | .rdDeadzone => Sys2Proof.Machine.execRdDeadzone s
  | .rdMoveEps => Sys2Proof.Machine.execRdMoveEps s
  | .rdEnterTh => Sys2Proof.Machine.execRdEnterTh s
  | .rdExitTh => Sys2Proof.Machine.execRdExitTh s
  | .rdRepeatMs => Sys2Proof.Machine.execRdRepeatMs s
  | .rdCalN => Sys2Proof.Machine.execRdCalN s
  | .rdCalxMin => Sys2Proof.Machine.execRdCalxMin s
  | .rdCalxCenter => Sys2Proof.Machine.execRdCalxCenter s
  | .rdCalxMax => Sys2Proof.Machine.execRdCalxMax s
  | .rdCalyMin => Sys2Proof.Machine.execRdCalyMin s
  | .rdCalyCenter => Sys2Proof.Machine.execRdCalyCenter s
  | .rdCalyMax => Sys2Proof.Machine.execRdCalyMax s
  | .rdJevtEn => Sys2Proof.Machine.execRdJevtEn s
  | .rdJevtStatus => Sys2Proof.Machine.execRdJevtStatus s
  | .rdRawx => Sys2Proof.Machine.execRdRawx s
  | .rdRawy => Sys2Proof.Machine.execRdRawy s
  | .rdNx => Sys2Proof.Machine.execRdNx s
  | .rdNy => Sys2Proof.Machine.execRdNy s
  | .rdMag => Sys2Proof.Machine.execRdMag s
  | .rdAngle => Sys2Proof.Machine.execRdAngle s
  | .rdDir8 => Sys2Proof.Machine.execRdDir8 s
  | .rdFiltx => Sys2Proof.Machine.execRdFiltx s
  | .rdFilty => Sys2Proof.Machine.execRdFilty s
  | .wrEtUs v => Sys2Proof.Machine.execWrEtUs v s
  | .wrEtMs v => Sys2Proof.Machine.execWrEtMs v s
  | .wrB0Debounce v => Sys2Proof.Machine.execWrB0Debounce v s
  | .wrB0ClickMs v => Sys2Proof.Machine.execWrB0ClickMs v s
  | .wrB0PressMs v => Sys2Proof.Machine.execWrB0PressMs v s
  | .wrB0DuringMs v => Sys2Proof.Machine.execWrB0DuringMs v s
  | .wrB0IdleMs v => Sys2Proof.Machine.execWrB0IdleMs v s
  | .wrB0TickMs v => Sys2Proof.Machine.execWrB0TickMs v s
  | .wrB0EvtEn v => Sys2Proof.Machine.execWrB0EvtEn v s
  | .wrB0EvtStatus v => Sys2Proof.Machine.execWrB0EvtStatus v s
  | .wrB1Debounce v => Sys2Proof.Machine.execWrB1Debounce v s
  | .wrB1ClickMs v => Sys2Proof.Machine.execWrB1ClickMs v s
  | .wrB1PressMs v => Sys2Proof.Machine.execWrB1PressMs v s
  | .wrB1DuringMs v => Sys2Proof.Machine.execWrB1DuringMs v s
  | .wrB1IdleMs v => Sys2Proof.Machine.execWrB1IdleMs v s
  | .wrB1TickMs v => Sys2Proof.Machine.execWrB1TickMs v s
  | .wrB1EvtEn v => Sys2Proof.Machine.execWrB1EvtEn v s
  | .wrB1EvtStatus v => Sys2Proof.Machine.execWrB1EvtStatus v s
  | .wrJoyCtrl v => Sys2Proof.Machine.execWrJoyCtrl v s
  | .wrAlpha v => Sys2Proof.Machine.execWrAlpha v s
  | .wrDeadzone v => Sys2Proof.Machine.execWrDeadzone v s
  | .wrMoveEps v => Sys2Proof.Machine.execWrMoveEps v s
  | .wrEnterTh v => Sys2Proof.Machine.execWrEnterTh v s
  | .wrExitTh v => Sys2Proof.Machine.execWrExitTh v s
  | .wrRepeatMs v => Sys2Proof.Machine.execWrRepeatMs v s
  | .wrCalN v => Sys2Proof.Machine.execWrCalN v s
  | .wrCalxMin v => Sys2Proof.Machine.execWrCalxMin v s
  | .wrCalxCenter v => Sys2Proof.Machine.execWrCalxCenter v s
  | .wrCalxMax v => Sys2Proof.Machine.execWrCalxMax v s
  | .wrCalyMin v => Sys2Proof.Machine.execWrCalyMin v s
  | .wrCalyCenter v => Sys2Proof.Machine.execWrCalyCenter v s
  | .wrCalyMax v => Sys2Proof.Machine.execWrCalyMax v s
  | .wrJevtEn v => Sys2Proof.Machine.execWrJevtEn v s
  | .wrJevtStatus v => Sys2Proof.Machine.execWrJevtStatus v s
  | .nop => Sys2Proof.Machine.execNop s
  | .beginClock => Sys2Proof.Machine.execBeginClock s
  | .bTick => Sys2Proof.Machine.execBTick s
  | .jTick => Sys2Proof.Machine.execJTick s
  | .bReset0 => Sys2Proof.Machine.execBReset0 s
  | .bReset1 => Sys2Proof.Machine.execBReset1 s
  | .calibrate => Sys2Proof.Machine.execCalibrate s
  | .etReset => Sys2Proof.Machine.execEtReset s

end Sys2Proof.Machine
end

