-- ==== Sys2Proof/Machine/HostPort.lean ====
section
/-! DEFINITION. The host port (R6, R60, R90): what each command word does, the words that are no row of the opcode table
included (R96), the register accesses `RegRead` and `RegWrite` (R72, R73), and the next move of the environment (R78,
R320). -/

namespace Sys2Proof.Machine

/-- The behaviour R96 gives a word that is no row of the table: an unmapped read returns 0 and the others are ignored; no
state changes, no port is sampled, no event is emitted. -/
def execNotRow (e : NotRow) (s : State) : Host.Outcome State Fault Refusal :=
  match e with
  | .unmappedRead _ => returnData 0 s
  | .unmappedWrite _ => returnNothing s
  | .readOnlyWrite _ => returnNothing s
  | .reservedCommand _ => returnNothing s

/-- The operation of one command word: every one of the 2^41 words completes (R96). -/
def runWord (cw : CmdWord) (s : State) : Host.Outcome State Fault Refusal :=
  match decode cw with
  | .ok i => exec i s
  | .error e => execNotRow e s

/-- `RegRead(addr)` (R72). -/
def regRead (a : Addr) (s : State) : Host.Outcome State Fault Refusal :=
  match decodeRead a with
  | some i => exec i s
  | none => returnData 0 s

/-- `RegWrite(addr, v)` (R73); a write of `CMD` runs the command of code `v[7:0]` (R222). -/
def regWrite (a : Addr) (v : Word) (s : State) : Host.Outcome State Fault Refusal :=
  match decodeWrite a v with
  | some i => exec i s
  | none =>
    if a = 0x00#8 then
      match decodeCommand (lowBits 8 v) with
      | some i => exec i s
      | none => returnNothing s
    else returnNothing s

/-- The next move of the environment: the host issues nothing more and nothing happens (R322); `rst` resets every element
(R320); or the host issues a command word and the ports carry the values of that operation (R6). -/
def takeMove (s : State) : Host.Outcome State Fault Refusal :=
  match s.moves with
  | [] => .next s
  | .rst :: rest => .next (hardwareReset { s with moves := rest })
  | .op cw p :: rest => runWord cw { s with ports := p, moves := rest }

/-- The host issues `cw` as its very next operation, the ports carrying what they carry now. -/
def issueWord (cw : CmdWord) (s : State) : State := { s with moves := .op cw s.ports :: s.moves }

end Sys2Proof.Machine
end

