-- ==== Sys2Proof/Machine/Step.lean ====
section
/-! DEFINITION. One step: one move of the environment, that is one atomic host operation or one hardware reset (R6, R7). The
block has no program counter and fetches nothing (R21): what a step runs is the next command word the host issues. -/

namespace Sys2Proof.Machine

/-- One step of the machine (R6, R78). -/
def step (s : State) : Host.Outcome State Fault Refusal := takeMove s

/-- The state in which the host issues, as its very next operation, the command word whose low `nbits` bits are those of `w`
and whose other bits are 0. -/
def State.withFetchWord (s : State) (nbits w : Nat) : State := issueWord (tableWord nbits w) s

end Sys2Proof.Machine
end

