-- ==== Sys2Proof/Safety.lean ====
section
/-! DEFINITION. What counts as a sound state and a safe run. `State.Inv` collects the legal values the spec gives the
elements (R22, R29 to R33), and the relations its rules say hold of every state the machine can reach. No run can be unsafe by
stopping: `Completes` says that a step answers a next state, as R290 demands of every step. -/

namespace Sys2Proof.Machine

/-- The step answers a next state: it neither faults nor is refused (R290, R96). -/
def Completes (o : Host.Outcome State Fault Refusal) : Prop := ∃ t, o = .next t

/-- A coordinate is in `-ONE..ONE` (R11, R30, R32). -/
def Coord.InRange (v : Coord) : Prop := -16384 ≤ v.toInt ∧ v.toInt ≤ 16384

/-- The clock's elements are in their ranges, and hold their reset values until BEGIN has run (R22, R110, R112). -/
structure Clock.Inv (p : Params) (c : Clock) : Prop where
  lastCnt_lt : c.lastCnt < 2 ^ p.cntBits
  frac_lt : c.frac < p.cntPerUs
  before_begin : c.clkInit = false → c.lastCnt = 0 ∧ c.frac = 0 ∧ c.usAcc = 0

/-- The click count and the hold duration are 0 in Init, which is entered through `fsm_reset` only (R141, R240), and the
click count is at least 1 in Count (R138). -/
structure Button.Inv (b : Button) : Prop where
  init_clear : b.state = .init → b.nclicks = 0 ∧ b.hold = 0
  count_pos : b.state = .count → 1 ≤ b.nclicks.toNat

/-- The axis configuration is legal and the coordinates are in range (R29, R30). -/
structure Axis.Inv (a : Axis) : Prop where
  alpha_le : a.cfg.alpha.toNat ≤ 16384
  calN_pos : 1 ≤ a.cfg.calN.toNat
  fx_range : Coord.InRange a.fx
  fy_range : Coord.InRange a.fy
  nx_range : Coord.InRange a.nx
  ny_range : Coord.InRange a.ny

/-- The thresholds and the magnitude are legal, the last reported vector is in range, and the direction is Center exactly
when no tilt is active (R31, R32, R272). -/
structure DirEngine.Inv (d : DirEngine) : Prop where
  enter_le : d.cfg.enterTh.toNat ≤ 16384
  exit_le : d.cfg.exitTh.toNat ≤ 16384
  mag_le : d.mag.toNat ≤ 16384
  lrx_range : Coord.InRange d.lrx
  lry_range : Coord.InRange d.lry
  center_iff : d.curDir = .center ↔ d.tiltActive = false

/-- The invariant of the machine. -/
structure State.Inv (s : State) : Prop where
  clk : s.clk.Inv s.par
  b0 : s.b0.Inv
  b1 : s.b1.Inv
  ax : s.ax.Inv
  de : s.de.Inv

end Sys2Proof.Machine
end

