-- ==== Sys2Proof/Machine/Assembler.lean ====
section
/-! DEFINITION. The test-program syntax (R98) and the pseudo-operations (R99): what moves of the host a line stands for. It
is no part of the machine; it is how the spec writes the host's moves down. A line that is not well formed (WellFormed.lean)
stands for nothing. -/

namespace Sys2Proof.Machine

/-- The operation of a mnemonic, the value a `WR` carries put in (R98). -/
def instrOf (mnemonic : String) (v : Word) : Option Instr :=
  ((List.range 0x100).findSome? fun a =>
      match decodeRead (BitVec.ofNat 8 a) with
      | some i => if mnemonicOf i = mnemonic then some i else none
      | none => none)
    <|> ((List.range 0x100).findSome? fun a =>
      match decodeWrite (BitVec.ofNat 8 a) v with
      | some i => if mnemonicOf i = mnemonic then some i else none
      | none => none)
    <|> ((List.range 0x100).findSome? fun a =>
      match decodeCommand (BitVec.ofNat 8 a) with
      | some i => if mnemonicOf i = mnemonic then some i else none
      | none => none)

/-- The port values of a line: what it names, the rest 0 (R97, R98). -/
def linePorts (l : AsmLine) : Ports :=
  let s := (l.samples.getD []).map fun p => (BitVec.ofNat 12 p.1, BitVec.ofNat 12 p.2)
  let one := (l.xy.map fun p => (BitVec.ofNat 12 p.1, BitVec.ofNat 12 p.2)).getD (s.headD (0, 0))
  { cnt := l.cnt.getD 0, btn0 := l.lvl.getD false, btn1 := l.lvl.getD false
    adcX := one.1, adcY := one.2, adcMore := s.tail }

/-- The move of a line; a negative value stands for its 32-bit two's-complement pattern (R98). -/
def lineMove (l : AsmLine) : Option Move :=
  (instrOf l.mnemonic (BitVec.ofInt 32 (l.value.getD 0))).map fun i => .op (encode i) (linePorts l)

/-- Ports of an operation that samples none. -/
def quietPorts : Ports := { cnt := 0, btn0 := false, btn1 := false, adcX := 0, adcY := 0, adcMore := [] }

/-- The enable mask of a list of kinds (R99). -/
def kindMask (kinds : List Nat) : Word := kinds.foldl (fun m k => m ||| BitVec.twoPow 32 k) 0

/-- The counter value at the `k`-th JTICK of a pseudo-operation, `(C - k*S) mod 2^CNT_BITS` (R99). -/
def tickCnt (p : Params) (cnt0 step k : Nat) : Nat :=
  (((cnt0 : Int) - (k : Int) * (step : Int)) % ((2 ^ p.cntBits : Nat) : Int)).toNat

/-- The expansion of a pseudo-operation (R99). -/
def expand (p : Params) : PseudoOp → List Move
  | .bticks n lvl => List.replicate n (.op (encode .bTick) { quietPorts with btn0 := lvl })
  | .jticks n cnt0 step x y lvl =>
    (List.range n).map fun k =>
      .op (encode .jTick) { quietPorts with cnt := tickCnt p cnt0 step (k + 1), adcX := x, adcY := y, btn1 := lvl }
  | .setEvt .b0 kinds => [.op (encode (.wrB0EvtEn (kindMask kinds))) quietPorts]
  | .setEvt .b1 kinds => [.op (encode (.wrB1EvtEn (kindMask kinds))) quietPorts]
  | .ackEvt .b0 seen => [.op (encode .rdB0EvtStatus) quietPorts, .op (encode (.wrB0EvtStatus seen)) quietPorts]
  | .ackEvt .b1 seen => [.op (encode .rdB1EvtStatus) quietPorts, .op (encode (.wrB1EvtStatus seen)) quietPorts]

end Sys2Proof.Machine
end

