-- ==== Sys2Proof/WellFormed.lean ====
section
/-! DEFINITION. Well-formedness of what the outside gives the machine. An `Instr` needs no check: its only operand is the
32-bit write data (R90, R95) and the type holds exactly those values, so every term is an operation the port can carry. What
can be ill formed is a port value wider than its port (R60), a pseudo-operation (R99) and a line of the test-program syntax
(R97, R98). -/

namespace Sys2Proof

/-- Every operation is well formed (R96: no command word is illegal); the operand's type carries its range. -/
abbrev Instr.WellFormed (_ : Instr) : Prop := True

/-- `cnt_in` fits its `CNT_BITS` wires (R60). The other ports' types carry their widths. -/
def Ports.wf (par : Params) (p : Ports) : Bool := decide (p.cnt < 2 ^ par.cntBits)

/-- A move whose port values fit the ports. -/
def Move.wf (par : Params) : Move → Bool
  | .op _ p => p.wf par
  | .rst => true

/-- A pseudo-operation: `n >= 1`, the start count fits the port, a kind is one of the nine (R99). -/
def PseudoOp.wf (par : Params) : PseudoOp → Bool
  | .bticks n _ => decide (1 ≤ n)
  | .jticks n cnt0 _ _ _ _ => decide (1 ≤ n) && decide (cnt0 < 2 ^ par.cntBits)
  | .setEvt _ kinds => kinds.all fun k => decide (k < 9)
  | .ackEvt _ _ => true

/-- The operation samples `cnt_in` (R97). -/
def samplesCnt : Instr → Bool
  | .rdNowUs | .rdNowMs | .rdEtUs | .rdEtMs | .wrEtUs _ | .wrEtMs _ | .beginClock | .jTick | .etReset => true
  | .rdCmd | .rdStatus | .rdB0Debounce | .rdB0ClickMs | .rdB0PressMs | .rdB0DuringMs | .rdB0IdleMs
  | .rdB0TickMs | .rdB0EvtEn | .rdB0EvtStatus | .rdB0State | .rdB0Nclicks | .rdB0HoldMs | .rdB0Waspressed
  | .rdB0Wasreleased | .rdB0Dblclicked | .rdB0Time | .rdB0Maxclicks | .rdB1Debounce | .rdB1ClickMs
  | .rdB1PressMs | .rdB1DuringMs | .rdB1IdleMs | .rdB1TickMs | .rdB1EvtEn | .rdB1EvtStatus | .rdB1State
  | .rdB1Nclicks | .rdB1HoldMs | .rdB1Waspressed | .rdB1Wasreleased | .rdB1Dblclicked | .rdB1Time
  | .rdB1Maxclicks | .rdJoyCtrl | .rdAlpha | .rdDeadzone | .rdMoveEps | .rdEnterTh | .rdExitTh | .rdRepeatMs
  | .rdCalN | .rdCalxMin | .rdCalxCenter | .rdCalxMax | .rdCalyMin | .rdCalyCenter | .rdCalyMax | .rdJevtEn
  | .rdJevtStatus | .rdRawx | .rdRawy | .rdNx | .rdNy | .rdMag | .rdAngle | .rdDir8 | .rdFiltx | .rdFilty
  | .wrB0Debounce _ | .wrB0ClickMs _ | .wrB0PressMs _ | .wrB0DuringMs _ | .wrB0IdleMs _ | .wrB0TickMs _
  | .wrB0EvtEn _ | .wrB0EvtStatus _ | .wrB1Debounce _ | .wrB1ClickMs _ | .wrB1PressMs _ | .wrB1DuringMs _
  | .wrB1IdleMs _ | .wrB1TickMs _ | .wrB1EvtEn _ | .wrB1EvtStatus _ | .wrJoyCtrl _ | .wrAlpha _ | .wrDeadzone _
  | .wrMoveEps _ | .wrEnterTh _ | .wrExitTh _ | .wrRepeatMs _ | .wrCalN _ | .wrCalxMin _ | .wrCalxCenter _
  | .wrCalxMax _ | .wrCalyMin _ | .wrCalyCenter _ | .wrCalyMax _ | .wrJevtEn _ | .wrJevtStatus _ | .nop
  | .bTick | .bReset0 | .bReset1 | .calibrate => false

/-- The operation samples a button level (R97). -/
def samplesLvl : Instr → Bool
  | .bTick | .jTick => true
  | .rdCmd | .rdStatus | .rdNowUs | .rdNowMs | .rdEtUs | .rdEtMs | .rdB0Debounce | .rdB0ClickMs | .rdB0PressMs
  | .rdB0DuringMs | .rdB0IdleMs | .rdB0TickMs | .rdB0EvtEn | .rdB0EvtStatus | .rdB0State | .rdB0Nclicks
  | .rdB0HoldMs | .rdB0Waspressed | .rdB0Wasreleased | .rdB0Dblclicked | .rdB0Time | .rdB0Maxclicks
  | .rdB1Debounce | .rdB1ClickMs | .rdB1PressMs | .rdB1DuringMs | .rdB1IdleMs | .rdB1TickMs | .rdB1EvtEn
  | .rdB1EvtStatus | .rdB1State | .rdB1Nclicks | .rdB1HoldMs | .rdB1Waspressed | .rdB1Wasreleased
  | .rdB1Dblclicked | .rdB1Time | .rdB1Maxclicks | .rdJoyCtrl | .rdAlpha | .rdDeadzone | .rdMoveEps
  | .rdEnterTh | .rdExitTh | .rdRepeatMs | .rdCalN | .rdCalxMin | .rdCalxCenter | .rdCalxMax | .rdCalyMin
  | .rdCalyCenter | .rdCalyMax | .rdJevtEn | .rdJevtStatus | .rdRawx | .rdRawy | .rdNx | .rdNy | .rdMag
  | .rdAngle | .rdDir8 | .rdFiltx | .rdFilty | .wrEtUs _ | .wrEtMs _ | .wrB0Debounce _ | .wrB0ClickMs _
  | .wrB0PressMs _ | .wrB0DuringMs _ | .wrB0IdleMs _ | .wrB0TickMs _ | .wrB0EvtEn _ | .wrB0EvtStatus _
  | .wrB1Debounce _ | .wrB1ClickMs _ | .wrB1PressMs _ | .wrB1DuringMs _ | .wrB1IdleMs _ | .wrB1TickMs _
  | .wrB1EvtEn _ | .wrB1EvtStatus _ | .wrJoyCtrl _ | .wrAlpha _ | .wrDeadzone _ | .wrMoveEps _ | .wrEnterTh _
  | .wrExitTh _ | .wrRepeatMs _ | .wrCalN _ | .wrCalxMin _ | .wrCalxCenter _ | .wrCalxMax _ | .wrCalyMin _
  | .wrCalyCenter _ | .wrCalyMax _ | .wrJevtEn _ | .wrJevtStatus _ | .nop | .beginClock | .bReset0 | .bReset1
  | .calibrate | .etReset => false

/-- A line names an operation, gives a value exactly when it is a `WR`, in the range of 32 bits signed or unsigned, and gives
exactly the port operands the operation has, each in its port's range; CALIBRATE lists `n` = `CAL_N` pairs (R97, R98). -/
def AsmLine.wf (par : Params) (n : Nat) (l : AsmLine) : Bool :=
  match Machine.instrOf l.mnemonic (BitVec.ofInt 32 (l.value.getD 0)) with
  | none => false
  | some i =>
    (l.value.isSome == (cwWrite (encode i) && !(cwAddr (encode i) == 0x00#8)))
      && (l.value.all fun v => decide (-(2 ^ 31) ≤ v ∧ v < 2 ^ 32))
      && (l.cnt.isSome == samplesCnt i) && (l.cnt.all fun c => decide (c < 2 ^ par.cntBits))
      && (l.lvl.isSome == samplesLvl i)
      && (l.xy.isSome == (i == .jTick)) && (l.xy.all fun p => decide (p.1 < 4096 ∧ p.2 < 4096))
      && (l.samples.isSome == (i == .calibrate))
      && (l.samples.all fun ps => decide (ps.length = n) && ps.all fun p => decide (p.1 < 4096 ∧ p.2 < 4096))

end Sys2Proof
end

