-- ==== Sys2Proof/Certificates/Slice0/Obligations.lean ====
section
/-! DEFINITION. The statements for the provers. Each docstring names the rule of spec/ the statement formalises. The
definitions under `Sys2Proof.Claims` are the statements' own vocabulary: what the rules say, written without the model's
helper functions wherever a rule gives a formula. -/

namespace Sys2Proof.Claims

open Sys2Proof.Machine

/-- The operation completes, returns a word that reads as the natural number `n`, emits nothing and changes nothing. -/
def ReadsNat (i : Instr) (s : State) (n : Nat) : Prop :=
  ∃ w : Word, w.toNat = n ∧ exec i s = .next { s with out := { rdata := some w, events := [] } }

/-- The same, the word read as a two's-complement number. -/
def ReadsInt (i : Instr) (s : State) (n : Int) : Prop :=
  ∃ w : Word, w.toInt = n ∧ exec i s = .next { s with out := { rdata := some w, events := [] } }

/-- The result of an operation that returns nothing and emits nothing. -/
def nothing : Output := { rdata := none, events := [] }

/-- The operation completes and stores in `B0` a configuration that has the property, everything else unchanged. -/
def StoresB0 (i : Instr) (s : State) (P : ButtonCfg → Prop) : Prop :=
  ∃ c, P c ∧ exec i s = .next { s with b0 := { s.b0 with cfg := c }, out := nothing }

/-- The same for `B1`. -/
def StoresB1 (i : Instr) (s : State) (P : ButtonCfg → Prop) : Prop :=
  ∃ c, P c ∧ exec i s = .next { s with b1 := { s.b1 with cfg := c }, out := nothing }

/-- The same for the axis processor's configuration. -/
def StoresAxis (i : Instr) (s : State) (P : AxisCfg → Prop) : Prop :=
  ∃ c, P c ∧ exec i s = .next { s with ax := { s.ax with cfg := c }, out := nothing }

/-- The same for the direction engine's configuration. -/
def StoresDir (i : Instr) (s : State) (P : DirCfg → Prop) : Prop :=
  ∃ c, P c ∧ exec i s = .next { s with de := { s.de with cfg := c }, out := nothing }

/-- 0 or 1 (R9). -/
def bit (b : Bool) : Nat := if b then 1 else 0

/-- The 24-bit event record (R295). -/
def record (src kind arg : Nat) : EventWord := BitVec.ofNat 24 (src * 2 ^ 20 + kind * 2 ^ 16 + arg)

/-- Unit number of a button (R292). -/
def srcOf : ButtonId → Nat
  | .b0 => 0
  | .b1 => 1

/-- The record of an event, if its kind is enabled; nothing otherwise (R293). -/
def gated {n : Nat} (en : BitVec n) (src kind arg : Nat) : List EventWord :=
  if en.getLsbD kind then [record src kind arg] else []

/-- What a clock update makes of the clock of `s` (R110): nothing before BEGIN; else the counts since the last sample, taken
modulo 2^`CNT_BITS`, are added to the remainder, whole microseconds go to `us_acc` and the rest stays in `frac`. -/
def ClockAfter (s : State) (c : Clock) : Prop :=
  c.clkInit = s.clk.clkInit ∧
  (s.clk.clkInit = false → c = s.clk) ∧
  (s.clk.clkInit = true →
    c.lastCnt = s.ports.cnt % 2 ^ s.par.cntBits ∧ c.frac < s.par.cntPerUs ∧
    ∃ us delta : Nat, delta < 2 ^ s.par.cntBits ∧
      (delta + c.lastCnt) % 2 ^ s.par.cntBits = s.clk.lastCnt % 2 ^ s.par.cntBits ∧
      us * s.par.cntPerUs + c.frac = s.clk.frac + delta ∧
      c.usAcc.toNat = (s.clk.usAcc.toNat + us) % 2 ^ 64)

/-- `now_us()` (R111). -/
def nowNat (c : Clock) : Nat := if c.clkInit then c.usAcc.toNat else 0

/-- The elapsed time of `ET` on the clock `c` (R118). -/
def elapsedNat (c : Clock) (off : Micros) : Nat :=
  if c.clkInit then (c.usAcc.toNat + (2 ^ 64 - off.toNat)) % 2 ^ 64 else 0

/-- The code of a button state (R26): Init 0, Down 1, Up 2, Count 3, Press 4, PressEnd 5. -/
def stateNumber : FsmState → Nat
  | .init => 0
  | .down => 1
  | .up => 2
  | .count => 3
  | .press => 4
  | .pressEnd => 5

/-- The code of a direction (R33): East 0, then counter-clockwise to South-East 7; Center 8. -/
def directionNumber : Direction → Nat
  | .east => 0
  | .northEast => 1
  | .north => 2
  | .northWest => 3
  | .west => 4
  | .southWest => 5
  | .south => 6
  | .southEast => 7
  | .center => 8

/-- Everything a button holds at reset (R321). -/
def ButtonAtReset (b : Button) : Prop :=
  b.cfg.debounce.toInt = 50 ∧ b.cfg.clickMs.toNat = 400 ∧ b.cfg.pressMs.toNat = 800 ∧ b.cfg.duringMs.toNat = 0 ∧
  b.cfg.idleMs.toNat = 1000 ∧ b.cfg.tickMs.toNat = 10 ∧ b.cfg.evtEn.toNat = 0 ∧ b.evtStatus.toNat = 0 ∧
  b.t.toNat = 0 ∧ b.lastChange.toNat = 0 ∧ b.entry.toNat = 0 ∧ b.lastDuring.toNat = 0 ∧ b.hold.toNat = 0 ∧
  b.lastRaw = false ∧ b.deb = false ∧ b.wasPressed = false ∧ b.wasReleased = false ∧ b.idleFired = false ∧
  b.dblPending = false ∧ b.state = .init ∧ b.nclicks.toNat = 0 ∧ (maxClicks b).toNat = 2

/-- Every element of the spec's state holds its reset value (R321). -/
def AtReset (s : State) : Prop :=
  (s.clk.clkInit = false ∧ s.clk.lastCnt = 0 ∧ s.clk.frac = 0 ∧ s.clk.usAcc.toNat = 0 ∧ s.etOff.toNat = 0) ∧
  ButtonAtReset s.b0 ∧ ButtonAtReset s.b1 ∧
  (s.ax.cfg.invX = false ∧ s.ax.cfg.invY = false ∧ s.ax.cfg.swap = false ∧ s.ax.cfg.xMap = true ∧
    s.ax.cfg.yMap = true ∧ s.ax.cfg.alpha.toNat = 16384 ∧ s.ax.cfg.deadzone.toNat = 0 ∧ s.ax.cfg.calN.toNat = 32 ∧
    s.ax.cfg.calX.min.toNat = 0 ∧ s.ax.cfg.calX.center.toNat = 2048 ∧ s.ax.cfg.calX.max.toNat = 4095 ∧
    s.ax.cfg.calY.min.toNat = 0 ∧ s.ax.cfg.calY.center.toNat = 2048 ∧ s.ax.cfg.calY.max.toNat = 4095) ∧
  (s.de.cfg.moveEps.toNat = 1 ∧ s.de.cfg.enterTh.toNat = 8192 ∧ s.de.cfg.exitTh.toNat = 4096 ∧
    s.de.cfg.repeatMs.toNat = 250 ∧ s.de.cfg.jevtEn.toNat = 0 ∧ s.de.jevtStatus.toNat = 0) ∧
  (s.ax.rawX.toNat = 0 ∧ s.ax.rawY.toNat = 0 ∧ s.ax.fx.toInt = 0 ∧ s.ax.fy.toInt = 0 ∧ s.ax.nx.toInt = 0 ∧
    s.ax.ny.toInt = 0 ∧ s.de.mag.toNat = 0 ∧ s.de.ang.toNat = 0) ∧
  s.de.curDir = .center ∧ s.de.prevDir = .center ∧ s.de.tiltActive = false ∧ s.de.lrx.toInt = 0 ∧
  s.de.lry.toInt = 0 ∧ s.de.lastRepeat.toNat = 0

/-- The unmapped word addresses (R71). -/
def Unmapped (a : Nat) : Prop := a = 0x02 ∨ a = 0x03 ∨ (0x08 ≤ a ∧ a ≤ 0x0F) ∨ (0x49 ≤ a ∧ a ≤ 0xFF)

/-- The addresses of the registers whose access is R or RC (R40, R41, R43). -/
def ReadOnly (a : Nat) : Prop :=
  a = 0x01 ∨ a = 0x04 ∨ a = 0x05 ∨ (0x18 ≤ a ∧ a ≤ 0x1F) ∨ (0x28 ≤ a ∧ a ≤ 0x2F) ∨ (0x40 ≤ a ∧ a ≤ 0x48)

/-- Field `addr` of a command word as a number (R90). -/
def addrNat (cw : CmdWord) : Nat := cw.toNat / 2 ^ 32 % 2 ^ 8

/-- The logical raw pair: unmapped channels replaced by 0, then the swap (R170, R171). -/
def logicalPair (c : AxisCfg) (p : Raw × Raw) : Nat × Nat :=
  let px := if c.xMap then p.1.toNat else 0
  let py := if c.yMap then p.2.toNat else 0
  if c.swap then (py, px) else (px, py)

/-- The operation reads or writes an element of `B0`, or ticks or resets it. -/
def addressesB0 (i : Instr) : Bool :=
  (0x10 ≤ addrNat (encode i) && addrNat (encode i) ≤ 0x1F) || i == .bTick || i == .bReset0

/-- The operation reads or writes an element of `B1`, or ticks or resets it. -/
def addressesB1 (i : Instr) : Bool :=
  (0x20 ≤ addrNat (encode i) && addrNat (encode i) ≤ 0x2F) || i == .jTick || i == .bReset1

/-- The operation is a register write with its address in the range. -/
def writesIn (i : Instr) (lo hi : Nat) : Bool :=
  cwWrite (encode i) && lo ≤ addrNat (encode i) && addrNat (encode i) ≤ hi

end Sys2Proof.Claims

open Sys2Proof Sys2Proof.Machine Sys2Proof.Claims

/-! ## The machine -/

/-- When the next move is a command word that decodes to an operation, a step performs that operation, with the port values
of the move on the ports and the move taken off the list (R6, R78, R90). The list of moves is the model's own field (log
entry 2). -/
def Obligations.StepRunsTheDecodedInstruction : Prop :=
  ∀ (s : State) (cw : CmdWord) (p : Ports) (rest : List Move) (i : Instr),
    s.moves = .op cw p :: rest → decode cw = .ok i → step s = exec i { s with ports := p, moves := rest }

/-- R290: every operation completes; a step never faults and is never refused. -/
def Obligations.EveryStepAnswersANextState : Prop :=
  (∀ (i : Instr) (s : State), Completes (exec i s)) ∧ (∀ (cw : CmdWord) (s : State), Completes (runWord cw s)) ∧
    ∀ s : State, Completes (step s)

/-- R321: the reset state, and what a step leaves when `rst` is asserted (R320), have every element at its reset value; the
reset returns and emits nothing. That the parameters, the values on the ports and the moves after it stay as they are is the
model's choice for its own fields (log entry 1 for `par`, log entry 2 for `ports` and `moves`), no rule of the spec. -/
def Obligations.ResetLeavesTheResetValues : Prop :=
  AtReset State.reset ∧
    ∀ (s : State) (rest : List Move), s.moves = .rst :: rest →
      ∃ t, step s = .next t ∧ AtReset t ∧ t.out = nothing ∧ t.moves = rest ∧ t.par = s.par ∧ t.ports = s.ports

/-- R71 to R73, R96: a read of an unmapped address returns 0 and changes nothing; a write to an unmapped address or to an R
or RC register changes nothing and returns nothing. -/
def Obligations.UnmappedAndReadOnlyAccessesDoNothing : Prop :=
  ∀ (cw : CmdWord) (s : State),
    (cw.toNat / 2 ^ 40 = 0 → Unmapped (addrNat cw) →
      runWord cw s = .next { s with out := { rdata := some 0, events := [] } }) ∧
    (cw.toNat / 2 ^ 40 = 1 → Unmapped (addrNat cw) ∨ ReadOnly (addrNat cw) →
      runWord cw s = .next { s with out := nothing })

/-- R212: NOP, and every reserved command code 0x08 to 0xFF, changes nothing, returns nothing, emits nothing; bits 31:8 of
the word do not matter (R93). -/
def Obligations.NopAndReservedCodesDoNothing : Prop :=
  ∀ s : State, exec .nop s = .next { s with out := nothing } ∧
    ∀ cw : CmdWord, cw.toNat / 2 ^ 40 = 1 → addrNat cw = 0 → (cw.toNat % 2 ^ 8 = 0 ∨ 8 ≤ cw.toNat % 2 ^ 8) →
      runWord cw s = .next { s with out := nothing }

/-- R90 to R94: decoding the encoding of an operation gives it back, with every operand. -/
def Obligations.DecodeInvertsEncode : Prop :=
  ∀ i : Instr, decode (encode i) = .ok i

/-- R90 to R93: a word that decodes to an operation has the operation's fixed bits, and a register write's word is its
encoding bit for bit. -/
def Obligations.DecodedWordsAgreeWithTheEncoder : Prop :=
  ∀ (cw : CmdWord) (i : Instr), decode cw = .ok i →
    cw &&& fixedMask i = encode i &&& fixedMask i ∧
      (cw.toNat / 2 ^ 40 = 1 → addrNat cw ≠ 0 → encode i = cw)

/-- Words written out in 95_test_vectors.md (V-E1 to V-E19) decode to what the spec says they are. -/
def Obligations.SpecWordsDecode : Prop :=
  decode 0x10000000000#41 = .ok .nop ∧ decode 0x10000000001#41 = .ok .beginClock ∧
  decode 0x10000000003#41 = .ok .jTick ∧ decode 0x100ABCDEF02#41 = .ok .bTick ∧
  decode 0x10000000006#41 = .ok .calibrate ∧ decode 0x001DEADBEEF#41 = .ok .rdStatus ∧
  decode 0x110FFFFFFEC#41 = .ok (.wrB0Debounce 0xFFFFFFEC#32) ∧ decode 0x126000001FF#41 = .ok (.wrB1EvtEn 0x1FF#32) ∧
  decode 0x13100002000#41 = .ok (.wrAlpha 8192#32) ∧ decode 0x04600000000#41 = .ok .rdDir8 ∧
  decode 0x00200000000#41 = .error (.unmappedRead 0x02#8) ∧ decode 0x14F12345678#41 = .error (.unmappedWrite 0x4F#8) ∧
  decode 0x118000000FF#41 = .error (.readOnlyWrite 0x18#8) ∧ decode 0x100000000FF#41 = .error (.reservedCommand 0xFF#8)

/-! ## Register access -/

/-- R222, R223: `CMD` reads 0; `STATUS` reads `clk_init`. -/
def Obligations.CommandAndStatusReads : Prop :=
  ∀ s : State, ReadsNat .rdCmd s 0 ∧ ReadsNat .rdStatus s (bit s.clk.clkInit)

/-- R230 to R237: reads of the button configuration registers and of `EVT_STATUS`; `DEBOUNCE` is sign-extended. -/
def Obligations.ButtonConfigurationReads : Prop :=
  ∀ s : State,
    (ReadsInt .rdB0Debounce s s.b0.cfg.debounce.toInt ∧ ReadsNat .rdB0ClickMs s s.b0.cfg.clickMs.toNat ∧
      ReadsNat .rdB0PressMs s s.b0.cfg.pressMs.toNat ∧ ReadsNat .rdB0DuringMs s s.b0.cfg.duringMs.toNat ∧
      ReadsNat .rdB0IdleMs s s.b0.cfg.idleMs.toNat ∧ ReadsNat .rdB0TickMs s s.b0.cfg.tickMs.toNat ∧
      ReadsNat .rdB0EvtEn s s.b0.cfg.evtEn.toNat ∧ ReadsNat .rdB0EvtStatus s s.b0.evtStatus.toNat) ∧
    (ReadsInt .rdB1Debounce s s.b1.cfg.debounce.toInt ∧ ReadsNat .rdB1ClickMs s s.b1.cfg.clickMs.toNat ∧
      ReadsNat .rdB1PressMs s s.b1.cfg.pressMs.toNat ∧ ReadsNat .rdB1DuringMs s s.b1.cfg.duringMs.toNat ∧
      ReadsNat .rdB1IdleMs s s.b1.cfg.idleMs.toNat ∧ ReadsNat .rdB1TickMs s s.b1.cfg.tickMs.toNat ∧
      ReadsNat .rdB1EvtEn s s.b1.cfg.evtEn.toNat ∧ ReadsNat .rdB1EvtStatus s s.b1.evtStatus.toNat)

/-- R238 to R240, R244, R245: reads of the button status registers, `STATE` given field by field, `state[2:0]` by the six
numbers of R26. -/
def Obligations.ButtonStatusReads : Prop :=
  ∀ s : State,
    let word (b : Button) : Nat :=
      stateNumber b.state + 8 * bit b.deb + 16 * bit b.lastRaw + 32 * bit b.idleFired +
        64 * bit (b.state == .init) + 128 * bit (b.state == .press)
    (ReadsNat .rdB0State s (word s.b0) ∧ ReadsNat .rdB0Nclicks s s.b0.nclicks.toNat ∧
      ReadsNat .rdB0HoldMs s s.b0.hold.toNat ∧ ReadsNat .rdB0Time s s.b0.t.toNat ∧
      ReadsNat .rdB0Maxclicks s (if s.b0.cfg.evtEn.getLsbD 4 then 255 else 2)) ∧
    (ReadsNat .rdB1State s (word s.b1) ∧ ReadsNat .rdB1Nclicks s s.b1.nclicks.toNat ∧
      ReadsNat .rdB1HoldMs s s.b1.hold.toNat ∧ ReadsNat .rdB1Time s s.b1.t.toNat ∧
      ReadsNat .rdB1Maxclicks s (if s.b1.cfg.evtEn.getLsbD 4 then 255 else 2))

/-- R241 to R243, R80: reading a latch returns it and clears it, and nothing else changes; the same read repeated returns
0. -/
def Obligations.LatchReadsClearTheFlag : Prop :=
  ∀ s : State,
    let clears (i : Instr) (flag : Bool) (t : State) : Prop :=
      (∃ w : Word, w.toNat = bit flag ∧ exec i s = .next { t with out := { rdata := some w, events := [] } }) ∧
        ∀ t', exec i s = .next t' → ReadsNat i t' 0
    clears .rdB0Waspressed s.b0.wasPressed { s with b0 := { s.b0 with wasPressed := false } } ∧
    clears .rdB0Wasreleased s.b0.wasReleased { s with b0 := { s.b0 with wasReleased := false } } ∧
    clears .rdB0Dblclicked s.b0.dblPending { s with b0 := { s.b0 with dblPending := false } } ∧
    clears .rdB1Waspressed s.b1.wasPressed { s with b1 := { s.b1 with wasPressed := false } } ∧
    clears .rdB1Wasreleased s.b1.wasReleased { s with b1 := { s.b1 with wasReleased := false } } ∧
    clears .rdB1Dblclicked s.b1.dblPending { s with b1 := { s.b1 with dblPending := false } }

/-- R230 to R236: a write of a button configuration register stores the low bits of the data in that element and changes
nothing else. -/
def Obligations.ButtonConfigurationWrites : Prop :=
  ∀ (s : State) (v : Word),
    (StoresB0 (.wrB0Debounce v) s (fun c => c = { s.b0.cfg with debounce := c.debounce } ∧ c.debounce.toNat = v.toNat % 2 ^ 16) ∧
      StoresB0 (.wrB0ClickMs v) s (fun c => c = { s.b0.cfg with clickMs := c.clickMs } ∧ c.clickMs.toNat = v.toNat % 2 ^ 16) ∧
      StoresB0 (.wrB0PressMs v) s (fun c => c = { s.b0.cfg with pressMs := c.pressMs } ∧ c.pressMs.toNat = v.toNat % 2 ^ 16) ∧
      StoresB0 (.wrB0DuringMs v) s (fun c => c = { s.b0.cfg with duringMs := c.duringMs } ∧ c.duringMs.toNat = v.toNat % 2 ^ 16) ∧
      StoresB0 (.wrB0IdleMs v) s (fun c => c = { s.b0.cfg with idleMs := c.idleMs } ∧ c.idleMs.toNat = v.toNat % 2 ^ 16) ∧
      StoresB0 (.wrB0TickMs v) s (fun c => c = { s.b0.cfg with tickMs := c.tickMs } ∧ c.tickMs.toNat = v.toNat % 2 ^ 16) ∧
      StoresB0 (.wrB0EvtEn v) s (fun c => c = { s.b0.cfg with evtEn := c.evtEn } ∧ c.evtEn.toNat = v.toNat % 2 ^ 9)) ∧
    (StoresB1 (.wrB1Debounce v) s (fun c => c = { s.b1.cfg with debounce := c.debounce } ∧ c.debounce.toNat = v.toNat % 2 ^ 16) ∧
      StoresB1 (.wrB1ClickMs v) s (fun c => c = { s.b1.cfg with clickMs := c.clickMs } ∧ c.clickMs.toNat = v.toNat % 2 ^ 16) ∧
      StoresB1 (.wrB1PressMs v) s (fun c => c = { s.b1.cfg with pressMs := c.pressMs } ∧ c.pressMs.toNat = v.toNat % 2 ^ 16) ∧
      StoresB1 (.wrB1DuringMs v) s (fun c => c = { s.b1.cfg with duringMs := c.duringMs } ∧ c.duringMs.toNat = v.toNat % 2 ^ 16) ∧
      StoresB1 (.wrB1IdleMs v) s (fun c => c = { s.b1.cfg with idleMs := c.idleMs } ∧ c.idleMs.toNat = v.toNat % 2 ^ 16) ∧
      StoresB1 (.wrB1TickMs v) s (fun c => c = { s.b1.cfg with tickMs := c.tickMs } ∧ c.tickMs.toNat = v.toNat % 2 ^ 16) ∧
      StoresB1 (.wrB1EvtEn v) s (fun c => c = { s.b1.cfg with evtEn := c.evtEn } ∧ c.evtEn.toNat = v.toNat % 2 ^ 9))

/-- R237, R265, R294: a write of a status register clears exactly the bits written as 1, keeps the others, and changes
nothing else. -/
def Obligations.StatusWritesClearTheWrittenBits : Prop :=
  ∀ (s : State) (v : Word),
    (∃ st : BitVec 9, (∀ k < 9, st.getLsbD k = (s.b0.evtStatus.getLsbD k && !v.getLsbD k)) ∧
      exec (.wrB0EvtStatus v) s = .next { s with b0 := { s.b0 with evtStatus := st }, out := nothing }) ∧
    (∃ st : BitVec 9, (∀ k < 9, st.getLsbD k = (s.b1.evtStatus.getLsbD k && !v.getLsbD k)) ∧
      exec (.wrB1EvtStatus v) s = .next { s with b1 := { s.b1 with evtStatus := st }, out := nothing }) ∧
    (∃ st : BitVec 6, (∀ k < 6, st.getLsbD k = (s.de.jevtStatus.getLsbD k && !v.getLsbD k)) ∧
      exec (.wrJevtStatus v) s = .next { s with de := { s.de with jevtStatus := st }, out := nothing })

/-- R250 to R257, R264, R265: reads of the joystick configuration registers but for the calibration, and of
`JEVT_STATUS`. -/
def Obligations.JoystickConfigurationReads : Prop :=
  ∀ s : State,
    ReadsNat .rdJoyCtrl s (bit s.ax.cfg.invX + 2 * bit s.ax.cfg.invY + 4 * bit s.ax.cfg.swap + 8 * bit s.ax.cfg.xMap +
      16 * bit s.ax.cfg.yMap) ∧
    ReadsNat .rdAlpha s s.ax.cfg.alpha.toNat ∧ ReadsNat .rdDeadzone s s.ax.cfg.deadzone.toNat ∧
    ReadsNat .rdMoveEps s s.de.cfg.moveEps.toNat ∧ ReadsNat .rdEnterTh s s.de.cfg.enterTh.toNat ∧
    ReadsNat .rdExitTh s s.de.cfg.exitTh.toNat ∧ ReadsNat .rdRepeatMs s s.de.cfg.repeatMs.toNat ∧
    ReadsNat .rdCalN s s.ax.cfg.calN.toNat ∧ ReadsNat .rdJevtEn s s.de.cfg.jevtEn.toNat ∧
    ReadsNat .rdJevtStatus s s.de.jevtStatus.toNat

/-- R95, R250 to R257, R264: writes of the joystick configuration registers, with their clamps; nothing else changes. -/
def Obligations.JoystickConfigurationWrites : Prop :=
  ∀ (s : State) (v : Word),
    StoresAxis (.wrJoyCtrl v) s (fun c => c = { s.ax.cfg with
        invX := v.getLsbD 0, invY := v.getLsbD 1, swap := v.getLsbD 2, xMap := v.getLsbD 3, yMap := v.getLsbD 4 }) ∧
    StoresAxis (.wrAlpha v) s (fun c => c = { s.ax.cfg with alpha := c.alpha } ∧
      c.alpha.toNat = min (v.toNat % 2 ^ 16) 16384) ∧
    StoresAxis (.wrDeadzone v) s (fun c => c = { s.ax.cfg with deadzone := c.deadzone } ∧
      c.deadzone.toNat = min (v.toNat % 2 ^ 16) 16383) ∧
    StoresAxis (.wrCalN v) s (fun c => c = { s.ax.cfg with calN := c.calN } ∧ c.calN.toNat = max (v.toNat % 2 ^ 8) 1) ∧
    StoresDir (.wrMoveEps v) s (fun c => c = { s.de.cfg with moveEps := c.moveEps } ∧ c.moveEps.toNat = v.toNat % 2 ^ 16) ∧
    StoresDir (.wrEnterTh v) s (fun c => c = { s.de.cfg with enterTh := c.enterTh } ∧
      c.enterTh.toNat = min (v.toNat % 2 ^ 16) 16384) ∧
    StoresDir (.wrExitTh v) s (fun c => c = { s.de.cfg with exitTh := c.exitTh } ∧
      c.exitTh.toNat = min (v.toNat % 2 ^ 16) 16384) ∧
    StoresDir (.wrRepeatMs v) s (fun c => c = { s.de.cfg with repeatMs := c.repeatMs } ∧ c.repeatMs.toNat = v.toNat % 2 ^ 16) ∧
    StoresDir (.wrJevtEn v) s (fun c => c = { s.de.cfg with jevtEn := c.jevtEn } ∧ c.jevtEn.toNat = v.toNat % 2 ^ 6)

/-- R258 to R263: a write of a calibration register stores the low 12 bits as written, whatever the other two hold, and
changes nothing else. -/
def Obligations.CalibrationWritesStoreAsWritten : Prop :=
  ∀ (s : State) (v : Word),
    StoresAxis (.wrCalxMin v) s (fun c => c = { s.ax.cfg with calX := { s.ax.cfg.calX with min := c.calX.min } } ∧
      c.calX.min.toNat = v.toNat % 2 ^ 12) ∧
    StoresAxis (.wrCalxCenter v) s (fun c => c = { s.ax.cfg with calX := { s.ax.cfg.calX with center := c.calX.center } } ∧
      c.calX.center.toNat = v.toNat % 2 ^ 12) ∧
    StoresAxis (.wrCalxMax v) s (fun c => c = { s.ax.cfg with calX := { s.ax.cfg.calX with max := c.calX.max } } ∧
      c.calX.max.toNat = v.toNat % 2 ^ 12) ∧
    StoresAxis (.wrCalyMin v) s (fun c => c = { s.ax.cfg with calY := { s.ax.cfg.calY with min := c.calY.min } } ∧
      c.calY.min.toNat = v.toNat % 2 ^ 12) ∧
    StoresAxis (.wrCalyCenter v) s (fun c => c = { s.ax.cfg with calY := { s.ax.cfg.calY with center := c.calY.center } } ∧
      c.calY.center.toNat = v.toNat % 2 ^ 12) ∧
    StoresAxis (.wrCalyMax v) s (fun c => c = { s.ax.cfg with calY := { s.ax.cfg.calY with max := c.calY.max } } ∧
      c.calY.max.toNat = v.toNat % 2 ^ 12)

/-- R172, R258 to R263: the calibration registers read the effective values `emin <= ec <= emax`: the smaller and the larger
of the stored ends, and the stored centre if it lies between them, else the midpoint rounded down. -/
def Obligations.CalibrationReadsAreEffective : Prop :=
  ∀ s : State,
    let effective (lo ce hi : Instr) (c : Calib) : Prop :=
      ∃ emin ec emax : Nat, ReadsNat lo s emin ∧ ReadsNat ce s ec ∧ ReadsNat hi s emax ∧ emin ≤ ec ∧ ec ≤ emax ∧
        (emin = c.min.toNat ∧ emax = c.max.toNat ∨ emin = c.max.toNat ∧ emax = c.min.toNat) ∧
        ((emin ≤ c.center.toNat ∧ c.center.toNat ≤ emax) → ec = c.center.toNat) ∧
        (¬(emin ≤ c.center.toNat ∧ c.center.toNat ≤ emax) → ec = (emin + emax) / 2)
    effective .rdCalxMin .rdCalxCenter .rdCalxMax s.ax.cfg.calX ∧
    effective .rdCalyMin .rdCalyCenter .rdCalyMax s.ax.cfg.calY

/-- R266 to R274: reads of the joystick output registers; the signed ones are sign-extended, `DIR8` is given field by
field, its directions by the nine numbers of R33. -/
def Obligations.JoystickOutputReads : Prop :=
  ∀ s : State,
    ReadsNat .rdRawx s s.ax.rawX.toNat ∧ ReadsNat .rdRawy s s.ax.rawY.toNat ∧ ReadsInt .rdNx s s.ax.nx.toInt ∧
    ReadsInt .rdNy s s.ax.ny.toInt ∧ ReadsNat .rdMag s s.de.mag.toNat ∧ ReadsNat .rdAngle s s.de.ang.toNat ∧
    ReadsNat .rdDir8 s (directionNumber s.de.curDir + 16 * directionNumber s.de.prevDir + 256 * bit s.de.tiltActive) ∧
    ReadsInt .rdFiltx s s.ax.fx.toInt ∧ ReadsInt .rdFilty s s.ax.fy.toInt

/-! ## Time -/

/-- R112, R337: the first BEGIN starts the clock at the sample; a later one changes nothing. -/
def Obligations.BeginStartsTheClockOnce : Prop :=
  ∀ s : State,
    exec .beginClock s = .next { s with
      clk := if s.clk.clkInit then s.clk
        else { clkInit := true, lastCnt := s.ports.cnt % 2 ^ s.par.cntBits, frac := 0, usAcc := 0 }
      out := nothing }

/-- R110, R111, R113, R114: `NOW_US` and `NOW_MS` update the clock and return the low 32 bits of the microseconds, or of the
whole milliseconds of the 64-bit count; 0 before BEGIN. Nothing else changes. -/
def Obligations.NowReadsUpdateTheClock : Prop :=
  ∀ s : State, ∃ (c : Clock) (us ms : Word), ClockAfter s c ∧
    exec .rdNowUs s = .next { s with clk := c, out := { rdata := some us, events := [] } } ∧
    exec .rdNowMs s = .next { s with clk := c, out := { rdata := some ms, events := [] } } ∧
    us.toNat = nowNat c % 2 ^ 32 ∧ ms.toNat = nowNat c / 1000 % 2 ^ 32

/-- R118, R119: `ET_US` and `ET_MS` update the clock and return the elapsed time since `et_off`, modulo 2^32; 0 before BEGIN.
Nothing else changes. -/
def Obligations.TimerReadsReportElapsedTime : Prop :=
  ∀ s : State, ∃ (c : Clock) (us ms : Word), ClockAfter s c ∧
    exec .rdEtUs s = .next { s with clk := c, out := { rdata := some us, events := [] } } ∧
    exec .rdEtMs s = .next { s with clk := c, out := { rdata := some ms, events := [] } } ∧
    us.toNat = elapsedNat c s.etOff % 2 ^ 32 ∧ ms.toNat = elapsedNat c s.etOff / 1000 % 2 ^ 32

/-- R115 to R117: ETRESET stores `now_us()` as the offset, `WR.ET_US d` and `WR.ET_MS d` the offset that makes the timer
read `d`; each updates the clock first and changes nothing else. -/
def Obligations.TimerWritesSetTheOffset : Prop :=
  ∀ (s : State) (d : Word), ∃ (c : Clock) (o us ms : Micros), ClockAfter s c ∧
    exec .etReset s = .next { s with clk := c, etOff := o, out := nothing } ∧
    exec (.wrEtUs d) s = .next { s with clk := c, etOff := us, out := nothing } ∧
    exec (.wrEtMs d) s = .next { s with clk := c, etOff := ms, out := nothing } ∧
    o.toNat = nowNat c ∧ (us.toNat + d.toNat) % 2 ^ 64 = nowNat c ∧ (ms.toNat + 1000 * d.toNat) % 2 ^ 64 = nowNat c

/-- R122: after BEGIN, a duration assigned to the timer is read back at once, in either unit, for every 32-bit duration,
when the write and the read sample the same count. -/
def Obligations.ElapsedTimerRoundTrip : Prop :=
  ∀ (s : State) (d : Word) (p q : Ports) (rest : List Move), s.clk.clkInit = true → q.cnt = p.cnt →
    (s.moves = .op (encode (.wrEtUs d)) p :: .op (encode .rdEtUs) q :: rest →
      ∃ t u, step s = .next t ∧ step t = .next u ∧ u.out.rdata = some d) ∧
    (s.moves = .op (encode (.wrEtMs d)) p :: .op (encode .rdEtMs) q :: rest →
      ∃ t u, step s = .next t ∧ step t = .next u ∧ u.out.rdata = some d)

/-- R120: over any sequence of clock updates of a running clock, the whole microseconds added are the floor of all counts
(the remainder at the start included) over `CNT_PER_US`, and the remainder kept is what is left: no count is lost to
rounding. -/
def Obligations.NoCountIsLostToRounding : Prop :=
  ∀ (p : Params) (samples : List Nat) (c : Clock), c.clkInit = true → c.frac < p.cntPerUs →
    let after := samples.foldl (fun c cnt => clockUpdate p cnt c) c
    let total := c.frac + ((samples.zip (c.lastCnt :: samples)).map fun q => counterDelta p.cntBits q.2 q.1).sum
    after.usAcc = c.usAcc + BitVec.ofNat 64 (total / p.cntPerUs) ∧ after.frac = total % p.cntPerUs

/-- R110, R331: a down-counter that moved by `d` counts between two samples gives the delta `d` modulo 2^`CNT_BITS`, also
across its wrap; so exactly `d` if fewer than 2^`CNT_BITS` counts passed. -/
def Obligations.CounterDeltaSurvivesTheWrap : Prop :=
  ∀ (bits last d : Nat),
    counterDelta bits last (((last : Int) - (d : Int)) % ((2 ^ bits : Nat) : Int)).toNat = d % 2 ^ bits

/-- R97, R110, R112: the clock is written by exactly the operations that sample `cnt_in`: the reads of `NOW_US` to `ET_MS`,
the writes of `ET_US` and `ET_MS`, BEGIN, ETRESET and JTICK. Each of them but BEGIN does one clock update, BEGIN starts a clock
that has not begun, and every other operation leaves the clock alone. Once begun it stays begun: only BEGIN sets `clk_init`
and no operation clears it. -/
def Obligations.OnlySamplingOperationsMoveTheClock : Prop :=
  ∀ (i : Instr) (s t : State), exec i s = .next t →
    (samplesCnt i = true ↔ (0x04 ≤ addrNat (encode i) ∧ addrNat (encode i) ≤ 0x07) ∨ i = .beginClock ∨ i = .etReset ∨
      i = .jTick) ∧
    (samplesCnt i = false → t.clk = s.clk) ∧
    (samplesCnt i = true → i ≠ .beginClock → ClockAfter s t.clk) ∧
    (i = .beginClock → s.clk.clkInit = false →
      t.clk = { clkInit := true, lastCnt := s.ports.cnt % 2 ^ s.par.cntBits, frac := 0, usAcc := 0 }) ∧
    (i = .beginClock → s.clk.clkInit = true → t.clk = s.clk) ∧
    (i ≠ .beginClock → t.clk.clkInit = s.clk.clkInit) ∧ (s.clk.clkInit = true → t.clk.clkInit = true)

/-! ## Buttons -/

/-- R144: BTICK samples `btn0`, ticks `B0` and returns its events; nothing else changes. -/
def Obligations.BTickTicksTheStandaloneButton : Prop :=
  ∀ s : State, ∃ (b : Button) (ev : List EventWord), buttonTick .b0 s.ports.btn0 s.b0 = (b, ev) ∧ b.cfg = s.b0.cfg ∧
    b.t.toNat = (s.b0.t.toNat + s.b0.cfg.tickMs.toNat) % 2 ^ 32 ∧ b.lastRaw = s.ports.btn0 ∧
    exec .bTick s = .next { s with b0 := b, out := { rdata := none, events := ev } }

/-- R141, R145: BRESET0 and BRESET1 put one state machine back to Init, stamp the entry, clear the click count, the idle flag
and the hold duration, and write nothing else. -/
def Obligations.ButtonResetCommands : Prop :=
  ∀ s : State,
    exec .bReset0 s = .next { s with
      b0 := { s.b0 with state := .init, entry := s.b0.t, nclicks := 0, idleFired := false, hold := 0 }, out := nothing } ∧
    exec .bReset1 s = .next { s with
      b1 := { s.b1 with state := .init, entry := s.b1.t, nclicks := 0, idleFired := false, hold := 0 }, out := nothing }

/-- R131 to R133: a tick advances the time base by `TICK_MS`, latches the raw edges, and applies the debounce filter with its
negative mode; the configuration is unchanged. -/
def Obligations.TickTimeBaseLatchesAndDebounce : Prop :=
  ∀ (u : ButtonId) (lvl : Bool) (b b' : Button) (ev : List EventWord), buttonTick u lvl b = (b', ev) →
    let d := b.cfg.debounce.toInt
    b'.cfg = b.cfg ∧ b'.t.toNat = (b.t.toNat + b.cfg.tickMs.toNat) % 2 ^ 32 ∧
    (b'.wasPressed = true ↔ b.wasPressed = true ∨ (lvl = true ∧ b.lastRaw = false)) ∧
    (b'.wasReleased = true ↔ b.wasReleased = true ∨ (lvl = false ∧ b.lastRaw = true)) ∧
    b'.lastRaw = lvl ∧ b'.lastChange = (if lvl = b.lastRaw then b.lastChange else b'.t) ∧
    b'.deb = (if d < 0 ∧ lvl = true then true
      else if lvl = b.lastRaw ∧ |d| ≤ ((b'.t - b.lastChange).toNat : Int) then lvl else b.deb)

/-- R27, R146: the debounced level changes only to the level sampled on this tick, and only when that level was already the
last raw level and has been for the debounce interval, or in negative mode on an active level. -/
def Obligations.DebouncedLevelNeedsAStableInterval : Prop :=
  ∀ (u : ButtonId) (lvl : Bool) (b b' : Button) (ev : List EventWord), buttonTick u lvl b = (b', ev) → b'.deb ≠ b.deb →
    b'.deb = lvl ∧
      ((b.lastRaw = lvl ∧ b.cfg.debounce.toInt.natAbs ≤ (b'.t - b.lastChange).toNat) ∨
        (b.cfg.debounce.toInt < 0 ∧ lvl = true))

/-- R131, R133: a level held for two ticks or more, the later ones spanning the debounce interval, is the debounced level
whatever the button held before. -/
def Obligations.StableLevelIsAdopted : Prop :=
  ∀ (u : ButtonId) (lvl : Bool) (n : Nat) (b : Button), 2 ≤ n →
    b.cfg.debounce.toInt.natAbs ≤ (n - 1) * b.cfg.tickMs.toNat →
    ((fun b => (buttonTick u lvl b).1)^[n] b).deb = lvl

/-- R135: a tick in Init. The idle event falls due once, whether enabled or not; an active debounced level goes to Down,
clears the click count and is a press; IDLE comes before PRESS. -/
def Obligations.TickInInit : Prop :=
  ∀ (u : ButtonId) (lvl : Bool) (b b' : Button) (ev : List EventWord), buttonTick u lvl b = (b', ev) → b.state = .init →
    let due := !b.idleFired && decide (b.cfg.idleMs.toNat ≤ (b'.t - b.entry).toNat)
    b'.idleFired = (b.idleFired || due) ∧ b'.state = (if b'.deb then .down else .init) ∧
    b'.entry = (if b'.deb then b'.t else b.entry) ∧ b'.nclicks = (if b'.deb then 0 else b.nclicks) ∧
    b'.hold = b.hold ∧ b'.dblPending = b.dblPending ∧ b'.lastDuring = b.lastDuring ∧
    ev = (if due then gated b.cfg.evtEn (srcOf u) 8 0 else []) ++ (if b'.deb then gated b.cfg.evtEn (srcOf u) 0 0 else [])

/-- R136: a tick in Down. A release records the hold duration; a press longer than `PRESS_MS`, strictly, becomes a long
press; else nothing changes. No other rule records a hold duration: a tick outside Down clears it where it goes back to Init
from another state (R141) and leaves it alone elsewhere, and of the other operations only BRESET0 and BRESET1 write it. -/
def Obligations.TickInDown : Prop :=
  (∀ (u : ButtonId) (lvl : Bool) (b b' : Button) (ev : List EventWord), buttonTick u lvl b = (b', ev) →
    (b.state = .down →
      let e := (b'.t - b.entry).toNat
      b'.nclicks = b.nclicks ∧ b'.idleFired = b.idleFired ∧ b'.dblPending = b.dblPending ∧
      (if b'.deb = false then
          b'.state = .up ∧ b'.entry = b'.t ∧ b'.hold.toNat = e ∧ b'.lastDuring = b.lastDuring ∧
            ev = gated b.cfg.evtEn (srcOf u) 1 0
        else if b.cfg.pressMs.toNat < e then
          b'.state = .press ∧ b'.entry = b'.t ∧ b'.hold = b.hold ∧ b'.lastDuring = b'.t ∧
            ev = gated b.cfg.evtEn (srcOf u) 5 0
        else b'.state = .down ∧ b'.entry = b.entry ∧ b'.hold = b.hold ∧ b'.lastDuring = b.lastDuring ∧ ev = [])) ∧
    (b.state ≠ .down → b'.hold = if b.state ≠ .init ∧ b'.state = .init then 0 else b.hold)) ∧
  ∀ (i : Instr) (s t : State), exec i s = .next t →
    (i ≠ .bTick → i ≠ .bReset0 → t.b0.hold = s.b0.hold) ∧ (i ≠ .jTick → i ≠ .bReset1 → t.b1.hold = s.b1.hold)

/-- R137: a tick in Up goes to Count, counts the click up to 255, and marks a double click pending when the count becomes
2; no event. -/
def Obligations.TickInUp : Prop :=
  ∀ (u : ButtonId) (lvl : Bool) (b b' : Button) (ev : List EventWord), buttonTick u lvl b = (b', ev) → b.state = .up →
    b'.state = .count ∧ b'.entry = b'.t ∧ b'.nclicks.toNat = min (b.nclicks.toNat + 1) 255 ∧
    (b'.dblPending = true ↔ b.dblPending = true ∨ b'.nclicks.toNat = 2) ∧
    b'.idleFired = b.idleFired ∧ b'.hold = b.hold ∧ b'.lastDuring = b.lastDuring ∧ ev = []

/-- R138, R141, R142: a tick in Count. An active level goes back to Down without an event; else the end of the click window,
or the maximal count, ends the sequence with the event of its count; else nothing changes. The statement covers a count of 0
too, which R138 and U10 say cannot occur in Count: that it then reports MULTICLICK(0) is the model's choice (log entry 8). -/
def Obligations.TickInCount : Prop :=
  ∀ (u : ButtonId) (lvl : Bool) (b b' : Button) (ev : List EventWord), buttonTick u lvl b = (b', ev) → b.state = .count →
    let n := b.nclicks.toNat
    let kind := if n = 1 then 2 else if n = 2 then 3 else 4
    b'.dblPending = b.dblPending ∧ b'.lastDuring = b.lastDuring ∧
    (if b'.deb then
        b'.state = .down ∧ b'.entry = b'.t ∧ b'.nclicks = b.nclicks ∧ b'.idleFired = b.idleFired ∧ b'.hold = b.hold ∧
          ev = []
      else if b.cfg.clickMs.toNat ≤ (b'.t - b.entry).toNat ∨ n = (if b.cfg.evtEn.getLsbD 4 then 255 else 2) then
        b'.state = .init ∧ b'.entry = b'.t ∧ b'.nclicks = 0 ∧ b'.idleFired = false ∧ b'.hold = 0 ∧
          ev = gated b.cfg.evtEn (srcOf u) kind n
      else
        b'.state = .count ∧ b'.entry = b.entry ∧ b'.nclicks = b.nclicks ∧ b'.idleFired = b.idleFired ∧
          b'.hold = b.hold ∧ ev = [])

/-- R139: a tick in Press. A release goes to PressEnd without an event; else the during-long-press event falls due every
`DURING_MS`, whether enabled or not. -/
def Obligations.TickInPress : Prop :=
  ∀ (u : ButtonId) (lvl : Bool) (b b' : Button) (ev : List EventWord), buttonTick u lvl b = (b', ev) → b.state = .press →
    b'.nclicks = b.nclicks ∧ b'.idleFired = b.idleFired ∧ b'.hold = b.hold ∧ b'.dblPending = b.dblPending ∧
    (if b'.deb = false then
        b'.state = .pressEnd ∧ b'.entry = b'.t ∧ b'.lastDuring = b.lastDuring ∧ ev = []
      else b'.state = .press ∧ b'.entry = b.entry ∧
        (if b.cfg.duringMs.toNat ≤ (b'.t - b.lastDuring).toNat then
            b'.lastDuring = b'.t ∧ ev = gated b.cfg.evtEn (srcOf u) 7 0
          else b'.lastDuring = b.lastDuring ∧ ev = []))

/-- R140, R141: a tick in PressEnd reports the end of the long press, without a guard, and resets the state machine. -/
def Obligations.TickInPressEnd : Prop :=
  ∀ (u : ButtonId) (lvl : Bool) (b b' : Button) (ev : List EventWord), buttonTick u lvl b = (b', ev) →
    b.state = .pressEnd →
    b'.state = .init ∧ b'.entry = b'.t ∧ b'.nclicks = 0 ∧ b'.idleFired = false ∧ b'.hold = 0 ∧
    b'.dblPending = b.dblPending ∧ b'.lastDuring = b.lastDuring ∧ ev = gated b.cfg.evtEn (srcOf u) 6 0

/-- R293 to R295, R297: the records of a button tick carry the button's unit number and enabled kinds; a status bit is set
exactly for the kinds emitted and none is cleared; a tick emits at most two records, and at most one outside Init. -/
def Obligations.ButtonStatusBitsRecordTheEvents : Prop :=
  ∀ (u : ButtonId) (lvl : Bool) (b b' : Button) (ev : List EventWord), buttonTick u lvl b = (b', ev) →
    (∀ w ∈ ev, w.toNat / 2 ^ 20 = srcOf u ∧ b.cfg.evtEn.getLsbD (w.toNat / 2 ^ 16 % 16) = true) ∧
    (∀ k < 9, b'.evtStatus.getLsbD k = (b.evtStatus.getLsbD k || ev.any fun w => w.toNat / 2 ^ 16 % 16 == k)) ∧
    ev.length ≤ 2 ∧ (b.state ≠ .init → ev.length ≤ 1)

/-- R143: which kinds are enabled changes nothing of a button's evolution but the status bits and the records, except through
the MULTICLICK bit (R142): two buttons that differ in `EVT_EN` (not in bit 4) and `EVT_STATUS` only differ after a tick in
these only. -/
def Obligations.ButtonStateIgnoresEventEnables : Prop :=
  ∀ (u : ButtonId) (lvl : Bool) (b : Button) (en st : BitVec 9), en.getLsbD 4 = b.cfg.evtEn.getLsbD 4 →
    let b₂ := { b with cfg := { b.cfg with evtEn := en }, evtStatus := st }
    { (buttonTick u lvl b₂).1 with
        cfg := (buttonTick u lvl b).1.cfg, evtStatus := (buttonTick u lvl b).1.evtStatus } = (buttonTick u lvl b).1

/-! ## Joystick -/

/-- R210: JTICK updates the clock, steps the axis processor and the direction engine, and ticks `B1` on `btn1`; joystick
records precede the button's; `B0`, the timer and every configuration are untouched, nothing is read. -/
def Obligations.JTickComposesItsUnits : Prop :=
  ∀ s : State, ∃ (c : Clock) (a : Axis) (d : DirEngine) (joy : List EventWord),
    exec .jTick s = .next { s with
      clk := c, ax := a, de := d, b1 := (buttonTick .b1 s.ports.btn1 s.b1).1
      out := { rdata := none, events := joy ++ (buttonTick .b1 s.ports.btn1 s.b1).2 } } ∧
    ClockAfter s c ∧ a.cfg = s.ax.cfg ∧ d.cfg = s.de.cfg ∧ (buttonTick .b1 s.ports.btn1 s.b1).1.cfg = s.b1.cfg ∧
    ∀ w ∈ joy, w.toNat / 2 ^ 20 = 2

/-- R170, R174, R175, R178: the axis path of JTICK in exact integers: from a legal axis state, the elements stored are the
values of the rules, none cut off by an element's width. What `normalize` and `deadzone` give is stated by
NormalizationIsBoundedAndMonotone and DeadzoneOutputIsBounded. -/
def Obligations.JTickAxisPath : Prop :=
  ∀ s : State, s.ax.Inv → ∃ t, exec .jTick s = .next t ∧
    let raw := logicalPair s.ax.cfg (s.ports.adcX, s.ports.adcY)
    let sign (inv : Bool) : Int := if inv then -1 else 1
    let alpha : Int := s.ax.cfg.alpha.toNat
    t.ax.cfg = s.ax.cfg ∧ t.ax.rawX.toNat = raw.1 ∧ t.ax.rawY.toNat = raw.2 ∧
    t.ax.fx.toInt = Int.tdiv (alpha * (sign s.ax.cfg.invX * normalize t.ax.rawX s.ax.cfg.calX) +
      (16384 - alpha) * s.ax.fx.toInt) 16384 ∧
    t.ax.fy.toInt = Int.tdiv (alpha * (sign s.ax.cfg.invY * normalize t.ax.rawY s.ax.cfg.calY) +
      (16384 - alpha) * s.ax.fy.toInt) 16384 ∧
    (t.ax.nx.toInt, t.ax.ny.toInt) = deadzone s.ax.cfg.deadzone.toNat t.ax.fx.toInt t.ax.fy.toInt

/-- R173: normalization is bounded by `ONE`, rises with the sample, is 0 at the effective centre, `ONE` from the upper end on
and `-ONE` from the lower end down (where the spans are not zero), and in between is the scaled distance from the centre
rounded toward 0. Where a span is zero it counts as 1, so that every sample beyond the centre on that side gives `ONE` or
`-ONE`. -/
def Obligations.NormalizationIsBoundedAndMonotone : Prop :=
  ∀ (c : Calib) (raw : Raw),
    (-16384 ≤ normalize raw c ∧ normalize raw c ≤ 16384) ∧
    (∀ raw' : Raw, raw.toNat ≤ raw'.toNat → normalize raw c ≤ normalize raw' c) ∧
    (raw.toNat = calCenter c → normalize raw c = 0) ∧
    (calCenter c < calMax c → calMax c ≤ raw.toNat → normalize raw c = 16384) ∧
    (calMin c < calCenter c → raw.toNat ≤ calMin c → normalize raw c = -16384) ∧
    (calCenter c ≤ raw.toNat → raw.toNat ≤ calMax c → calCenter c < calMax c →
      normalize raw c = (((raw.toNat - calCenter c) * 16384 / (calMax c - calCenter c) : Nat) : Int)) ∧
    (calMin c ≤ raw.toNat → raw.toNat ≤ calCenter c → calMin c < calCenter c →
      normalize raw c = -(((calCenter c - raw.toNat) * 16384 / (calCenter c - calMin c) : Nat) : Int)) ∧
    (calCenter c = calMax c → calCenter c < raw.toNat → normalize raw c = 16384) ∧
    (calMin c = calCenter c → raw.toNat < calCenter c → normalize raw c = -16384)

/-- R175: with `0 <= ALPHA <= ONE` the filter keeps its state in `-ONE..ONE`, takes the sample at `ALPHA` = `ONE`, freezes at
`ALPHA` = 0, is odd, and where it comes to rest is within `ONE / ALPHA` of the sample. -/
def Obligations.SmoothingFilterProperties : Prop :=
  ∀ (alpha : Nat) (x f : Int), alpha ≤ 16384 →
    (|x| ≤ 16384 → |f| ≤ 16384 → |smooth alpha x f| ≤ 16384) ∧
    smooth 16384 x f = x ∧ smooth 0 x f = f ∧ smooth alpha (-x) (-f) = -smooth alpha x f ∧
    (smooth alpha x f = f → (alpha : Int) * |x - f| < 16384)

/-- R176, R177: with `r` the floor of the length of `(fx, fy)`, the deadzone gives (0, 0) up to its radius, and outside it
the vector rescaled to the magnitude `m`, each coordinate truncated toward 0; no coordinate and no length exceeds `ONE`, and
each coordinate keeps its sign or is 0, a zero coordinate being 0. -/
def Obligations.DeadzoneOutputIsBounded : Prop :=
  ∀ (dz r : Nat) (fx fy : Int), dz ≤ 16383 →
    (r : Int) * r ≤ fx * fx + fy * fy → fx * fx + fy * fy < ((r : Int) + 1) * (r + 1) →
    let n := deadzone dz fx fy
    let m : Int := min (((r : Int) - dz) * 16384 / (16384 - dz)) 16384
    (r ≤ dz → n = (0, 0)) ∧ (dz < r → n = (Int.tdiv (fx * m) r, Int.tdiv (fy * m) r)) ∧
    |n.1| ≤ 16384 ∧ |n.2| ≤ 16384 ∧ n.1 * n.1 + n.2 * n.2 < 16385 * 16385 ∧
    0 ≤ n.1 * fx ∧ 0 ≤ n.2 * fy ∧ (fx = 0 → n.1 = 0) ∧ (fy = 0 → n.2 = 0)

/-- R190, R193, R271: after JTICK the magnitude is the floor of the length of `(nx, ny)`, at most `ONE`, and the angle
register holds the vector's angle. -/
def Obligations.PolarFormOfTheVector : Prop :=
  ∀ s : State, ∃ t, exec .jTick s = .next t ∧
    (let r : Int := t.de.mag.toNat
     let x := t.ax.nx.toInt
     let y := t.ax.ny.toInt
     r * r ≤ x * x + y * y ∧ x * x + y * y < (r + 1) * (r + 1) ∧ r ≤ 16384 ∧ t.de.ang.toNat = angleBam x y)

/-- R191, R202: the eight directions, the quarter turn and the mirror image, and the sector boundary at 22.5 degrees, that is
at slope `sqrt 2 - 1`. -/
def Obligations.OctantGeometry : Prop :=
  (∀ m : Int, 0 < m →
    octant m 0 = .east ∧ octant m m = .northEast ∧ octant 0 m = .north ∧ octant (-m) m = .northWest ∧
    octant (-m) 0 = .west ∧ octant (-m) (-m) = .southWest ∧ octant 0 (-m) = .south ∧ octant m (-m) = .southEast) ∧
  (∀ x y : Int, x ≠ 0 ∨ y ≠ 0 →
    (octant (-y) x).code.toNat = ((octant x y).code.toNat + 2) % 8 ∧
    (octant x (-y)).code.toNat = (8 - (octant x y).code.toNat) % 8) ∧
  (∀ x y : Int, 0 < x → 0 ≤ y → (octant x y = .east ↔ (y : ℝ) < (Real.sqrt 2 - 1) * (x : ℝ)))

/-- R192: for every integer pair the octant is the sector of 8192 BAM, centred on a multiple of 8192, that the angle lies
in. -/
def Obligations.OctantAgreesWithTheAngle : Prop :=
  ∀ x y : Int, (octant x y).code.toNat = (angleBam x y + 4096) / 2 ^ 13 % 8

/-- R193: `angle_bam` is the floor of the real angle `atan2(y, x)` in units of 1/65536 turn, modulo the full turn, and 0 for
the zero vector. -/
def Obligations.AngleIsTheFlooredArctangent : Prop :=
  angleBam 0 0 = 0 ∧
    ∀ x y : Int, x ≠ 0 ∨ y ≠ 0 →
      (angleBam x y : Int) = ⌊Complex.arg ((x : ℂ) + (y : ℂ) * Complex.I) * 65536 / (2 * Real.pi)⌋ % 65536

/-- R193: the exact values on the axes and on the diagonals. -/
def Obligations.AngleOnAxesAndDiagonals : Prop :=
  ∀ m : Int, 0 < m →
    angleBam m 0 = 0 ∧ angleBam (-m) 0 = 32768 ∧ angleBam 0 m = 16384 ∧ angleBam 0 (-m) = 49152 ∧
    angleBam m m = 8192 ∧ angleBam (-m) m = 24576 ∧ angleBam (-m) (-m) = 40960 ∧ angleBam m (-m) = 57344

/-- R194, R195: the tilt starts at a magnitude of `ENTER_TH` or more, stops at the smaller threshold or less, and is kept in
between; the direction is the octant while tilted and Center else, and the previous one is remembered. -/
def Obligations.TiltHysteresis : Prop :=
  ∀ s : State, ∃ t, exec .jTick s = .next t ∧
    (let mag := t.de.mag.toNat
     let enter := s.de.cfg.enterTh.toNat
     let exit := min s.de.cfg.exitTh.toNat enter
     (s.de.tiltActive = false → (t.de.tiltActive = true ↔ enter ≤ mag)) ∧
     (s.de.tiltActive = true → (t.de.tiltActive = false ↔ mag ≤ exit)) ∧
     t.de.prevDir = s.de.curDir ∧
     t.de.curDir = (if t.de.tiltActive then octant t.ax.nx.toInt t.ax.ny.toInt else .center))

/-- R196 to R200, R293, R297: the joystick records of a JTICK, in their order, each gated by its enable bit; what the rules
write whether or not the kind is enabled; and the status bits. -/
def Obligations.JoystickEventsInOrder : Prop :=
  ∀ s : State, ∃ t, exec .jTick s = .next t ∧
    (let now : Micros := if t.clk.clkInit then t.clk.usAcc else 0
     let starts := !s.de.tiltActive && t.de.tiltActive
     let stops := s.de.tiltActive && !t.de.tiltActive
     let changed := t.de.tiltActive && decide (t.de.curDir ≠ s.de.curDir)
     let moves := decide ((s.de.cfg.moveEps.toNat : Int) ≤ |t.ax.nx.toInt - s.de.lrx.toInt|) ||
       decide ((s.de.cfg.moveEps.toNat : Int) ≤ |t.ax.ny.toInt - s.de.lry.toInt|)
     let stamp := if starts then now else s.de.lastRepeat
     let repeats := decide (t.de.curDir ≠ .center) && decide (s.de.cfg.repeatMs.toNat ≤ (now - stamp).toNat / 1000)
     let en := s.de.cfg.jevtEn
     let fires (k : Nat) : Bool := match k with
       | 0 => moves | 1 => starts | 2 => stops | 3 => changed | 4 => repeats | _ => stops
     t.out.events =
       (if starts then gated en 2 1 0 else []) ++ (if changed then gated en 2 3 t.de.curDir.code.toNat else []) ++
       (if moves then gated en 2 0 0 else []) ++ (if repeats then gated en 2 4 0 else []) ++
       (if stops then gated en 2 2 0 ++ gated en 2 5 0 else []) ++ (buttonTick .b1 s.ports.btn1 s.b1).2 ∧
     t.de.lrx = (if moves then t.ax.nx else s.de.lrx) ∧ t.de.lry = (if moves then t.ax.ny else s.de.lry) ∧
     t.de.lastRepeat = (if repeats then now else stamp) ∧
     ∀ k < 6, t.de.jevtStatus.getLsbD k = (s.de.jevtStatus.getLsbD k || (fires k && en.getLsbD k)))

/-- R264, R299: which joystick kinds are enabled changes nothing but the status bits and the records: two states that differ
in `JEVT_EN` and `JEVT_STATUS` only differ after a JTICK in these and in the records only. -/
def Obligations.JoystickStateIgnoresEventEnables : Prop :=
  ∀ (s t t₂ : State) (en st : BitVec 6), exec .jTick s = .next t →
    exec .jTick { s with de := { s.de with cfg := { s.de.cfg with jevtEn := en }, jevtStatus := st } } = .next t₂ →
    { t₂ with de := { t₂.de with cfg := t.de.cfg, jevtStatus := t.de.jevtStatus }, out := t.out } = t

/-- R211: CALIBRATE takes exactly `CAL_N` pairs, beginning with the one on the ports, and stores the floors of the averages
of the logical samples as the two centres; it writes nothing else. (Where the environment lists fewer pairs the ports hold
the last one: the model's choice, log entry 2; the statement says nothing of those pairs but that they are averaged.) -/
def Obligations.CalibrateAveragesTheSamples : Prop :=
  ∀ s : State, 1 ≤ s.ax.cfg.calN.toNat →
    let n := s.ax.cfg.calN.toNat
    let samples := acquire n s.ports
    samples.length = n ∧ samples.head? = some (s.ports.adcX, s.ports.adcY) ∧
    (∀ k, k < s.ports.adcMore.length → k + 1 < n → samples[k + 1]? = s.ports.adcMore[k]?) ∧
    ∃ cx cy : Raw,
      cx.toNat = ((samples.map (logicalPair s.ax.cfg)).map Prod.fst).sum / n ∧
      cy.toNat = ((samples.map (logicalPair s.ax.cfg)).map Prod.snd).sum / n ∧
      exec .calibrate s = .next { s with
        ax := { s.ax with cfg := { s.ax.cfg with
          calX := { s.ax.cfg.calX with center := cx }, calY := { s.ax.cfg.calY with center := cy } } }
        out := nothing }

/-! ## Whole-machine rules -/

/-- R24, R29, R31, R304: an operation leaves alone the units it does not address: a button but for its own registers, tick and
reset; the axis processor but for writes of 0x30 to 0x32 and 0x37 to 0x3D, CALIBRATE and JTICK; the direction engine but for
writes of 0x33 to 0x36, 0x3E and 0x3F, and JTICK; the timer but for writes of `ET_US` and `ET_MS`, and ETRESET. A configuration
changes by such a write only, or by CALIBRATE. That no operation changes `par`, `ports` and `moves` is a statement about the
model's own fields (log entries 1 and 2), no rule of the spec. -/
def Obligations.OperationsTouchOnlyTheirUnits : Prop :=
  ∀ (i : Instr) (s t : State), exec i s = .next t →
    (t.par = s.par ∧ t.ports = s.ports ∧ t.moves = s.moves) ∧
    (addressesB0 i = false → t.b0 = s.b0) ∧ (writesIn i 0x10 0x16 = false → t.b0.cfg = s.b0.cfg) ∧
    (addressesB1 i = false → t.b1 = s.b1) ∧ (writesIn i 0x20 0x26 = false → t.b1.cfg = s.b1.cfg) ∧
    (writesIn i 0x30 0x32 = false → writesIn i 0x37 0x3D = false → i ≠ .calibrate →
      t.ax.cfg = s.ax.cfg ∧ (i ≠ .jTick → t.ax = s.ax)) ∧
    (writesIn i 0x33 0x36 = false → writesIn i 0x3E 0x3E = false → t.de.cfg = s.de.cfg) ∧
    (writesIn i 0x33 0x36 = false → writesIn i 0x3E 0x3F = false → i ≠ .jTick → t.de = s.de) ∧
    (writesIn i 0x06 0x07 = false → i ≠ .etReset → t.etOff = s.etOff)

/-- R90, R295: exactly the reads return a word, and only BTICK and JTICK emit events. -/
def Obligations.OnlyReadsReturnAndOnlyTicksEmit : Prop :=
  ∀ (i : Instr) (s t : State), exec i s = .next t →
    (t.out.rdata.isSome = true ↔ (encode i).toNat / 2 ^ 40 = 0) ∧
    (i ≠ .bTick → i ≠ .jTick → t.out.events = [])

/-- R3, R304: the two buttons share no state: what an operation that does not address one of them does, and returns, does not
depend on what that button holds. -/
def Obligations.OperationsIgnoreTheOtherButton : Prop :=
  ∀ (i : Instr) (s t : State) (b : Button), exec i s = .next t →
    (addressesB0 i = false → exec i { s with b0 := b } = .next { t with b0 := b }) ∧
    (addressesB1 i = false → exec i { s with b1 := b } = .next { t with b1 := b })

/-- The invariant of Safety.lean holds at reset. -/
def Obligations.InvariantHoldsAtReset : Prop := State.reset.Inv

/-- Every step keeps the invariant of Safety.lean: the clock's ranges (R22), the click count in Init and Count (R138, R141,
R240), the legal configurations and coordinates (R29 to R32), and Center exactly when not tilted (R272). -/
def Obligations.StepKeepsTheInvariant : Prop :=
  ∀ s t : State, s.Inv → step s = .next t → t.Inv
end

