-- ==== Sys2Proof/Laws/State.lean ====
section
/-! SUPPORT. One lemma per field and named update of the state, each true by definition, so that no proof unfolds a record
update. -/

namespace Sys2Proof.Machine

/-! `updateClock`. -/

@[simp] theorem updateClock_clk (s : State) : (updateClock s).clk = clockUpdate s.par (sampleCnt s) s.clk := rfl
@[simp] theorem updateClock_etOff (s : State) : (updateClock s).etOff = s.etOff := rfl
@[simp] theorem updateClock_b0 (s : State) : (updateClock s).b0 = s.b0 := rfl
@[simp] theorem updateClock_b1 (s : State) : (updateClock s).b1 = s.b1 := rfl
@[simp] theorem updateClock_ax (s : State) : (updateClock s).ax = s.ax := rfl
@[simp] theorem updateClock_de (s : State) : (updateClock s).de = s.de := rfl
@[simp] theorem updateClock_par (s : State) : (updateClock s).par = s.par := rfl
@[simp] theorem updateClock_ports (s : State) : (updateClock s).ports = s.ports := rfl
@[simp] theorem updateClock_out (s : State) : (updateClock s).out = s.out := rfl
@[simp] theorem updateClock_moves (s : State) : (updateClock s).moves = s.moves := rfl

/-! `assignElapsed`. -/

@[simp] theorem assignElapsed_clk (d : Nat) (s : State) : (assignElapsed d s).clk = s.clk := rfl
@[simp] theorem assignElapsed_etOff (d : Nat) (s : State) :
    (assignElapsed d s).etOff = nowUs s.clk - BitVec.ofNat 64 d := rfl
@[simp] theorem assignElapsed_b0 (d : Nat) (s : State) : (assignElapsed d s).b0 = s.b0 := rfl
@[simp] theorem assignElapsed_b1 (d : Nat) (s : State) : (assignElapsed d s).b1 = s.b1 := rfl
@[simp] theorem assignElapsed_ax (d : Nat) (s : State) : (assignElapsed d s).ax = s.ax := rfl
@[simp] theorem assignElapsed_de (d : Nat) (s : State) : (assignElapsed d s).de = s.de := rfl
@[simp] theorem assignElapsed_par (d : Nat) (s : State) : (assignElapsed d s).par = s.par := rfl
@[simp] theorem assignElapsed_ports (d : Nat) (s : State) : (assignElapsed d s).ports = s.ports := rfl
@[simp] theorem assignElapsed_out (d : Nat) (s : State) : (assignElapsed d s).out = s.out := rfl
@[simp] theorem assignElapsed_moves (d : Nat) (s : State) : (assignElapsed d s).moves = s.moves := rfl

/-! `hardwareReset`. -/

@[simp] theorem hardwareReset_clk (s : State) : (hardwareReset s).clk = State.reset.clk := rfl
@[simp] theorem hardwareReset_etOff (s : State) : (hardwareReset s).etOff = 0 := rfl
@[simp] theorem hardwareReset_b0 (s : State) : (hardwareReset s).b0 = Button.reset := rfl
@[simp] theorem hardwareReset_b1 (s : State) : (hardwareReset s).b1 = Button.reset := rfl
@[simp] theorem hardwareReset_ax (s : State) : (hardwareReset s).ax = Axis.reset := rfl
@[simp] theorem hardwareReset_de (s : State) : (hardwareReset s).de = DirEngine.reset := rfl
@[simp] theorem hardwareReset_par (s : State) : (hardwareReset s).par = s.par := rfl
@[simp] theorem hardwareReset_ports (s : State) : (hardwareReset s).ports = s.ports := rfl
@[simp] theorem hardwareReset_out (s : State) : (hardwareReset s).out = State.reset.out := rfl
@[simp] theorem hardwareReset_moves (s : State) : (hardwareReset s).moves = s.moves := rfl

/-! `issueWord`. -/

@[simp] theorem issueWord_clk (cw : CmdWord) (s : State) : (issueWord cw s).clk = s.clk := rfl
@[simp] theorem issueWord_etOff (cw : CmdWord) (s : State) : (issueWord cw s).etOff = s.etOff := rfl
@[simp] theorem issueWord_b0 (cw : CmdWord) (s : State) : (issueWord cw s).b0 = s.b0 := rfl
@[simp] theorem issueWord_b1 (cw : CmdWord) (s : State) : (issueWord cw s).b1 = s.b1 := rfl
@[simp] theorem issueWord_ax (cw : CmdWord) (s : State) : (issueWord cw s).ax = s.ax := rfl
@[simp] theorem issueWord_de (cw : CmdWord) (s : State) : (issueWord cw s).de = s.de := rfl
@[simp] theorem issueWord_par (cw : CmdWord) (s : State) : (issueWord cw s).par = s.par := rfl
@[simp] theorem issueWord_ports (cw : CmdWord) (s : State) : (issueWord cw s).ports = s.ports := rfl
@[simp] theorem issueWord_out (cw : CmdWord) (s : State) : (issueWord cw s).out = s.out := rfl
@[simp] theorem issueWord_moves (cw : CmdWord) (s : State) : (issueWord cw s).moves = .op cw s.ports :: s.moves := rfl

/-! `advanceTime`. -/

@[simp] theorem advanceTime_cfg (b : Button) : (advanceTime b).cfg = b.cfg := rfl
@[simp] theorem advanceTime_t (b : Button) : (advanceTime b).t = b.t + b.cfg.tickMs.setWidth 32 := rfl
@[simp] theorem advanceTime_lastRaw (b : Button) : (advanceTime b).lastRaw = b.lastRaw := rfl
@[simp] theorem advanceTime_lastChange (b : Button) : (advanceTime b).lastChange = b.lastChange := rfl
@[simp] theorem advanceTime_deb (b : Button) : (advanceTime b).deb = b.deb := rfl
@[simp] theorem advanceTime_wasPressed (b : Button) : (advanceTime b).wasPressed = b.wasPressed := rfl
@[simp] theorem advanceTime_wasReleased (b : Button) : (advanceTime b).wasReleased = b.wasReleased := rfl
@[simp] theorem advanceTime_state (b : Button) : (advanceTime b).state = b.state := rfl
@[simp] theorem advanceTime_entry (b : Button) : (advanceTime b).entry = b.entry := rfl
@[simp] theorem advanceTime_nclicks (b : Button) : (advanceTime b).nclicks = b.nclicks := rfl
@[simp] theorem advanceTime_idleFired (b : Button) : (advanceTime b).idleFired = b.idleFired := rfl
@[simp] theorem advanceTime_hold (b : Button) : (advanceTime b).hold = b.hold := rfl
@[simp] theorem advanceTime_dblPending (b : Button) : (advanceTime b).dblPending = b.dblPending := rfl
@[simp] theorem advanceTime_lastDuring (b : Button) : (advanceTime b).lastDuring = b.lastDuring := rfl
@[simp] theorem advanceTime_evtStatus (b : Button) : (advanceTime b).evtStatus = b.evtStatus := rfl

/-! `latchEdges`. -/

@[simp] theorem latchEdges_cfg (lvl : Bool) (b : Button) : (latchEdges lvl b).cfg = b.cfg := rfl
@[simp] theorem latchEdges_t (lvl : Bool) (b : Button) : (latchEdges lvl b).t = b.t := rfl
@[simp] theorem latchEdges_lastRaw (lvl : Bool) (b : Button) : (latchEdges lvl b).lastRaw = b.lastRaw := rfl
@[simp] theorem latchEdges_lastChange (lvl : Bool) (b : Button) : (latchEdges lvl b).lastChange = b.lastChange := rfl
@[simp] theorem latchEdges_deb (lvl : Bool) (b : Button) : (latchEdges lvl b).deb = b.deb := rfl
@[simp] theorem latchEdges_wasPressed (lvl : Bool) (b : Button) :
    (latchEdges lvl b).wasPressed = (b.wasPressed || (lvl && !b.lastRaw)) := rfl
@[simp] theorem latchEdges_wasReleased (lvl : Bool) (b : Button) :
    (latchEdges lvl b).wasReleased = (b.wasReleased || (!lvl && b.lastRaw)) := rfl
@[simp] theorem latchEdges_state (lvl : Bool) (b : Button) : (latchEdges lvl b).state = b.state := rfl
@[simp] theorem latchEdges_entry (lvl : Bool) (b : Button) : (latchEdges lvl b).entry = b.entry := rfl
@[simp] theorem latchEdges_nclicks (lvl : Bool) (b : Button) : (latchEdges lvl b).nclicks = b.nclicks := rfl
@[simp] theorem latchEdges_idleFired (lvl : Bool) (b : Button) : (latchEdges lvl b).idleFired = b.idleFired := rfl
@[simp] theorem latchEdges_hold (lvl : Bool) (b : Button) : (latchEdges lvl b).hold = b.hold := rfl
@[simp] theorem latchEdges_dblPending (lvl : Bool) (b : Button) : (latchEdges lvl b).dblPending = b.dblPending := rfl
@[simp] theorem latchEdges_lastDuring (lvl : Bool) (b : Button) : (latchEdges lvl b).lastDuring = b.lastDuring := rfl
@[simp] theorem latchEdges_evtStatus (lvl : Bool) (b : Button) : (latchEdges lvl b).evtStatus = b.evtStatus := rfl

/-! `enterState`. -/

@[simp] theorem enterState_cfg (st : FsmState) (b : Button) : (enterState st b).cfg = b.cfg := rfl
@[simp] theorem enterState_t (st : FsmState) (b : Button) : (enterState st b).t = b.t := rfl
@[simp] theorem enterState_lastRaw (st : FsmState) (b : Button) : (enterState st b).lastRaw = b.lastRaw := rfl
@[simp] theorem enterState_lastChange (st : FsmState) (b : Button) :
    (enterState st b).lastChange = b.lastChange := rfl
@[simp] theorem enterState_deb (st : FsmState) (b : Button) : (enterState st b).deb = b.deb := rfl
@[simp] theorem enterState_wasPressed (st : FsmState) (b : Button) :
    (enterState st b).wasPressed = b.wasPressed := rfl
@[simp] theorem enterState_wasReleased (st : FsmState) (b : Button) :
    (enterState st b).wasReleased = b.wasReleased := rfl
@[simp] theorem enterState_state (st : FsmState) (b : Button) : (enterState st b).state = st := rfl
@[simp] theorem enterState_entry (st : FsmState) (b : Button) : (enterState st b).entry = b.t := rfl
@[simp] theorem enterState_nclicks (st : FsmState) (b : Button) : (enterState st b).nclicks = b.nclicks := rfl
@[simp] theorem enterState_idleFired (st : FsmState) (b : Button) : (enterState st b).idleFired = b.idleFired := rfl
@[simp] theorem enterState_hold (st : FsmState) (b : Button) : (enterState st b).hold = b.hold := rfl
@[simp] theorem enterState_dblPending (st : FsmState) (b : Button) :
    (enterState st b).dblPending = b.dblPending := rfl
@[simp] theorem enterState_lastDuring (st : FsmState) (b : Button) :
    (enterState st b).lastDuring = b.lastDuring := rfl
@[simp] theorem enterState_evtStatus (st : FsmState) (b : Button) : (enterState st b).evtStatus = b.evtStatus := rfl

/-! `fsmReset`. -/

@[simp] theorem fsmReset_cfg (b : Button) : (fsmReset b).cfg = b.cfg := rfl
@[simp] theorem fsmReset_t (b : Button) : (fsmReset b).t = b.t := rfl
@[simp] theorem fsmReset_lastRaw (b : Button) : (fsmReset b).lastRaw = b.lastRaw := rfl
@[simp] theorem fsmReset_lastChange (b : Button) : (fsmReset b).lastChange = b.lastChange := rfl
@[simp] theorem fsmReset_deb (b : Button) : (fsmReset b).deb = b.deb := rfl
@[simp] theorem fsmReset_wasPressed (b : Button) : (fsmReset b).wasPressed = b.wasPressed := rfl
@[simp] theorem fsmReset_wasReleased (b : Button) : (fsmReset b).wasReleased = b.wasReleased := rfl
@[simp] theorem fsmReset_state (b : Button) : (fsmReset b).state = .init := rfl
@[simp] theorem fsmReset_entry (b : Button) : (fsmReset b).entry = b.t := rfl
@[simp] theorem fsmReset_nclicks (b : Button) : (fsmReset b).nclicks = 0 := rfl
@[simp] theorem fsmReset_idleFired (b : Button) : (fsmReset b).idleFired = false := rfl
@[simp] theorem fsmReset_hold (b : Button) : (fsmReset b).hold = 0 := rfl
@[simp] theorem fsmReset_dblPending (b : Button) : (fsmReset b).dblPending = b.dblPending := rfl
@[simp] theorem fsmReset_lastDuring (b : Button) : (fsmReset b).lastDuring = b.lastDuring := rfl
@[simp] theorem fsmReset_evtStatus (b : Button) : (fsmReset b).evtStatus = b.evtStatus := rfl

/-! `clearPressed`. -/

@[simp] theorem clearPressed_cfg (b : Button) : (clearPressed b).cfg = b.cfg := rfl
@[simp] theorem clearPressed_t (b : Button) : (clearPressed b).t = b.t := rfl
@[simp] theorem clearPressed_lastRaw (b : Button) : (clearPressed b).lastRaw = b.lastRaw := rfl
@[simp] theorem clearPressed_lastChange (b : Button) : (clearPressed b).lastChange = b.lastChange := rfl
@[simp] theorem clearPressed_deb (b : Button) : (clearPressed b).deb = b.deb := rfl
@[simp] theorem clearPressed_wasPressed (b : Button) : (clearPressed b).wasPressed = false := rfl
@[simp] theorem clearPressed_wasReleased (b : Button) : (clearPressed b).wasReleased = b.wasReleased := rfl
@[simp] theorem clearPressed_state (b : Button) : (clearPressed b).state = b.state := rfl
@[simp] theorem clearPressed_entry (b : Button) : (clearPressed b).entry = b.entry := rfl
@[simp] theorem clearPressed_nclicks (b : Button) : (clearPressed b).nclicks = b.nclicks := rfl
@[simp] theorem clearPressed_idleFired (b : Button) : (clearPressed b).idleFired = b.idleFired := rfl
@[simp] theorem clearPressed_hold (b : Button) : (clearPressed b).hold = b.hold := rfl
@[simp] theorem clearPressed_dblPending (b : Button) : (clearPressed b).dblPending = b.dblPending := rfl
@[simp] theorem clearPressed_lastDuring (b : Button) : (clearPressed b).lastDuring = b.lastDuring := rfl
@[simp] theorem clearPressed_evtStatus (b : Button) : (clearPressed b).evtStatus = b.evtStatus := rfl

/-! `clearReleased`. -/

@[simp] theorem clearReleased_cfg (b : Button) : (clearReleased b).cfg = b.cfg := rfl
@[simp] theorem clearReleased_t (b : Button) : (clearReleased b).t = b.t := rfl
@[simp] theorem clearReleased_lastRaw (b : Button) : (clearReleased b).lastRaw = b.lastRaw := rfl
@[simp] theorem clearReleased_lastChange (b : Button) : (clearReleased b).lastChange = b.lastChange := rfl
@[simp] theorem clearReleased_deb (b : Button) : (clearReleased b).deb = b.deb := rfl
@[simp] theorem clearReleased_wasPressed (b : Button) : (clearReleased b).wasPressed = b.wasPressed := rfl
@[simp] theorem clearReleased_wasReleased (b : Button) : (clearReleased b).wasReleased = false := rfl
@[simp] theorem clearReleased_state (b : Button) : (clearReleased b).state = b.state := rfl
@[simp] theorem clearReleased_entry (b : Button) : (clearReleased b).entry = b.entry := rfl
@[simp] theorem clearReleased_nclicks (b : Button) : (clearReleased b).nclicks = b.nclicks := rfl
@[simp] theorem clearReleased_idleFired (b : Button) : (clearReleased b).idleFired = b.idleFired := rfl
@[simp] theorem clearReleased_hold (b : Button) : (clearReleased b).hold = b.hold := rfl
@[simp] theorem clearReleased_dblPending (b : Button) : (clearReleased b).dblPending = b.dblPending := rfl
@[simp] theorem clearReleased_lastDuring (b : Button) : (clearReleased b).lastDuring = b.lastDuring := rfl
@[simp] theorem clearReleased_evtStatus (b : Button) : (clearReleased b).evtStatus = b.evtStatus := rfl

/-! `clearDouble`. -/

@[simp] theorem clearDouble_cfg (b : Button) : (clearDouble b).cfg = b.cfg := rfl
@[simp] theorem clearDouble_t (b : Button) : (clearDouble b).t = b.t := rfl
@[simp] theorem clearDouble_lastRaw (b : Button) : (clearDouble b).lastRaw = b.lastRaw := rfl
@[simp] theorem clearDouble_lastChange (b : Button) : (clearDouble b).lastChange = b.lastChange := rfl
@[simp] theorem clearDouble_deb (b : Button) : (clearDouble b).deb = b.deb := rfl
@[simp] theorem clearDouble_wasPressed (b : Button) : (clearDouble b).wasPressed = b.wasPressed := rfl
@[simp] theorem clearDouble_wasReleased (b : Button) : (clearDouble b).wasReleased = b.wasReleased := rfl
@[simp] theorem clearDouble_state (b : Button) : (clearDouble b).state = b.state := rfl
@[simp] theorem clearDouble_entry (b : Button) : (clearDouble b).entry = b.entry := rfl
@[simp] theorem clearDouble_nclicks (b : Button) : (clearDouble b).nclicks = b.nclicks := rfl
@[simp] theorem clearDouble_idleFired (b : Button) : (clearDouble b).idleFired = b.idleFired := rfl
@[simp] theorem clearDouble_hold (b : Button) : (clearDouble b).hold = b.hold := rfl
@[simp] theorem clearDouble_dblPending (b : Button) : (clearDouble b).dblPending = false := rfl
@[simp] theorem clearDouble_lastDuring (b : Button) : (clearDouble b).lastDuring = b.lastDuring := rfl
@[simp] theorem clearDouble_evtStatus (b : Button) : (clearDouble b).evtStatus = b.evtStatus := rfl

/-! `axisFilter`. -/

@[simp] theorem axisFilter_cfg (p : Raw × Raw) (a : Axis) : (axisFilter p a).cfg = a.cfg := rfl
@[simp] theorem axisFilter_rawX (p : Raw × Raw) (a : Axis) : (axisFilter p a).rawX = p.1 := rfl
@[simp] theorem axisFilter_rawY (p : Raw × Raw) (a : Axis) : (axisFilter p a).rawY = p.2 := rfl
@[simp] theorem axisFilter_fx (p : Raw × Raw) (a : Axis) :
    (axisFilter p a).fx = coord (smooth a.cfg.alpha.toNat (invert a.cfg.invX (normalize p.1 a.cfg.calX)) a.fx.toInt) := rfl
@[simp] theorem axisFilter_fy (p : Raw × Raw) (a : Axis) :
    (axisFilter p a).fy = coord (smooth a.cfg.alpha.toNat (invert a.cfg.invY (normalize p.2 a.cfg.calY)) a.fy.toInt) := rfl
@[simp] theorem axisFilter_nx (p : Raw × Raw) (a : Axis) : (axisFilter p a).nx = a.nx := rfl
@[simp] theorem axisFilter_ny (p : Raw × Raw) (a : Axis) : (axisFilter p a).ny = a.ny := rfl

/-! `axisDeadzone`. -/

@[simp] theorem axisDeadzone_cfg (a : Axis) : (axisDeadzone a).cfg = a.cfg := rfl
@[simp] theorem axisDeadzone_rawX (a : Axis) : (axisDeadzone a).rawX = a.rawX := rfl
@[simp] theorem axisDeadzone_rawY (a : Axis) : (axisDeadzone a).rawY = a.rawY := rfl
@[simp] theorem axisDeadzone_fx (a : Axis) : (axisDeadzone a).fx = a.fx := rfl
@[simp] theorem axisDeadzone_fy (a : Axis) : (axisDeadzone a).fy = a.fy := rfl
@[simp] theorem axisDeadzone_nx (a : Axis) :
    (axisDeadzone a).nx = coord (deadzone a.cfg.deadzone.toNat a.fx.toInt a.fy.toInt).1 := rfl
@[simp] theorem axisDeadzone_ny (a : Axis) :
    (axisDeadzone a).ny = coord (deadzone a.cfg.deadzone.toNat a.fx.toInt a.fy.toInt).2 := rfl

/-! `polar`. -/

@[simp] theorem polar_cfg (x y : Int) (d : DirEngine) : (polar x y d).cfg = d.cfg := rfl
@[simp] theorem polar_mag (x y : Int) (d : DirEngine) : (polar x y d).mag = BitVec.ofNat 15 (vectorLength x y) := rfl
@[simp] theorem polar_ang (x y : Int) (d : DirEngine) : (polar x y d).ang = BitVec.ofNat 16 (angleBam x y) := rfl
@[simp] theorem polar_curDir (x y : Int) (d : DirEngine) : (polar x y d).curDir = d.curDir := rfl
@[simp] theorem polar_prevDir (x y : Int) (d : DirEngine) : (polar x y d).prevDir = d.prevDir := rfl
@[simp] theorem polar_tiltActive (x y : Int) (d : DirEngine) : (polar x y d).tiltActive = d.tiltActive := rfl
@[simp] theorem polar_lrx (x y : Int) (d : DirEngine) : (polar x y d).lrx = d.lrx := rfl
@[simp] theorem polar_lry (x y : Int) (d : DirEngine) : (polar x y d).lry = d.lry := rfl
@[simp] theorem polar_lastRepeat (x y : Int) (d : DirEngine) : (polar x y d).lastRepeat = d.lastRepeat := rfl
@[simp] theorem polar_jevtStatus (x y : Int) (d : DirEngine) : (polar x y d).jevtStatus = d.jevtStatus := rfl

/-! `decideTilt`. -/

@[simp] theorem decideTilt_cfg (d : DirEngine) : (decideTilt d).cfg = d.cfg := rfl
@[simp] theorem decideTilt_mag (d : DirEngine) : (decideTilt d).mag = d.mag := rfl
@[simp] theorem decideTilt_ang (d : DirEngine) : (decideTilt d).ang = d.ang := rfl
@[simp] theorem decideTilt_curDir (d : DirEngine) : (decideTilt d).curDir = d.curDir := rfl
@[simp] theorem decideTilt_prevDir (d : DirEngine) : (decideTilt d).prevDir = d.prevDir := rfl
@[simp] theorem decideTilt_tiltActive (d : DirEngine) :
    (decideTilt d).tiltActive = (if tiltStops d then false else if tiltStarts d then true else d.tiltActive) := rfl
@[simp] theorem decideTilt_lrx (d : DirEngine) : (decideTilt d).lrx = d.lrx := rfl
@[simp] theorem decideTilt_lry (d : DirEngine) : (decideTilt d).lry = d.lry := rfl
@[simp] theorem decideTilt_lastRepeat (d : DirEngine) : (decideTilt d).lastRepeat = d.lastRepeat := rfl
@[simp] theorem decideTilt_jevtStatus (d : DirEngine) : (decideTilt d).jevtStatus = d.jevtStatus := rfl

/-! `decideDirection`. -/

@[simp] theorem decideDirection_cfg (x y : Int) (d : DirEngine) : (decideDirection x y d).cfg = d.cfg := rfl
@[simp] theorem decideDirection_mag (x y : Int) (d : DirEngine) : (decideDirection x y d).mag = d.mag := rfl
@[simp] theorem decideDirection_ang (x y : Int) (d : DirEngine) : (decideDirection x y d).ang = d.ang := rfl
@[simp] theorem decideDirection_curDir (x y : Int) (d : DirEngine) :
    (decideDirection x y d).curDir = (if d.tiltActive then octant x y else .center) := rfl
@[simp] theorem decideDirection_prevDir (x y : Int) (d : DirEngine) :
    (decideDirection x y d).prevDir = d.curDir := rfl
@[simp] theorem decideDirection_tiltActive (x y : Int) (d : DirEngine) :
    (decideDirection x y d).tiltActive = d.tiltActive := rfl
@[simp] theorem decideDirection_lrx (x y : Int) (d : DirEngine) : (decideDirection x y d).lrx = d.lrx := rfl
@[simp] theorem decideDirection_lry (x y : Int) (d : DirEngine) : (decideDirection x y d).lry = d.lry := rfl
@[simp] theorem decideDirection_lastRepeat (x y : Int) (d : DirEngine) :
    (decideDirection x y d).lastRepeat = d.lastRepeat := rfl
@[simp] theorem decideDirection_jevtStatus (x y : Int) (d : DirEngine) :
    (decideDirection x y d).jevtStatus = d.jevtStatus := rfl

end Sys2Proof.Machine
end

