-- ==== Sys2Proof/Laws/Arith.lean ====
section
/-! SUPPORT. The arithmetic primitives (R10): what `isqrt`, `tdiv`, `clamp` and the 16-bit storage of a coordinate do. -/

namespace Sys2Proof.Machine

/-! `isqrt`. -/

theorem isqrtBits_spec (k n r : Nat) (hlo : r * r ≤ n) (hhi : n < (r + 2 ^ k) * (r + 2 ^ k)) :
    isqrtBits k n r * isqrtBits k n r ≤ n ∧ n < (isqrtBits k n r + 1) * (isqrtBits k n r + 1) := by
  induction k generalizing r with
  | zero => exact ⟨hlo, by simpa [isqrtBits] using hhi⟩
  | succ k ih =>
    have e : r + 2 ^ (k + 1) = r + 2 ^ k + 2 ^ k := by rw [pow_succ]; omega
    unfold isqrtBits
    split
    · exact ih _ ‹_› (e ▸ hhi)
    · exact ih _ hlo (Nat.lt_of_not_le ‹_›)

/-- The defining property of `isqrt` (R10). -/
theorem isqrt_spec (n : Nat) : isqrt n * isqrt n ≤ n ∧ n < (isqrt n + 1) * (isqrt n + 1) := by
  refine isqrtBits_spec _ n 0 (by simp) ?_
  have h := Nat.lt_log2_self (n := n)
  have h2 : 2 ^ (n.log2 + 1) ≤ 2 ^ (n.log2 / 2 + 1) * 2 ^ (n.log2 / 2 + 1) := by
    rw [← pow_add]
    exact Nat.pow_le_pow_right (by norm_num) (by omega)
  rw [Nat.zero_add]
  omega

/-- `isqrt` is the only number with its defining property. -/
theorem isqrt_unique {n r : Nat} (hlo : r * r ≤ n) (hhi : n < (r + 1) * (r + 1)) : isqrt n = r := by
  obtain ⟨h1, h2⟩ := isqrt_spec n
  apply le_antisymm
  · by_contra h
    have : (r + 1) * (r + 1) ≤ isqrt n * isqrt n := Nat.mul_le_mul (by omega) (by omega)
    omega
  · by_contra h
    have : (isqrt n + 1) * (isqrt n + 1) ≤ r * r := Nat.mul_le_mul (by omega) (by omega)
    omega

/-! `tdiv`. -/

theorem tdiv_of_nonneg {a b : Int} (h : 0 ≤ a) : tdiv a b = a / b := if_pos h

theorem tdiv_neg_left (a b : Int) : tdiv (-a) b = -tdiv a b := by
  unfold tdiv
  by_cases h : 0 ≤ a
  · by_cases h0 : a = 0
    · simp [h0]
    · rw [if_neg (by omega), if_pos h, neg_neg]
  · rw [if_pos (by omega), if_neg h, neg_neg]

/-- `tdiv` is the truncating division of the integers. -/
theorem tdiv_eq (a b : Int) : tdiv a b = Int.tdiv a b := by
  unfold tdiv
  split
  · rename_i h
    exact (Int.tdiv_eq_ediv_of_nonneg h).symm
  · rename_i h
    rw [← Int.tdiv_eq_ediv_of_nonneg (show 0 ≤ -a by omega), Int.neg_tdiv, neg_neg]

/-- A bound on the dividend's size bounds the quotient's. -/
theorem abs_tdiv_le {a b c : Int} (hb : 0 < b) (h : |a| ≤ c * b) : |tdiv a b| ≤ c := by
  have hc : ∀ x : Int, 0 ≤ x → x ≤ c * b → x / b ≤ c := fun x _ hx => Int.ediv_le_of_le_mul hb hx
  unfold tdiv
  split
  · rename_i h0
    rw [abs_of_nonneg (Int.ediv_nonneg h0 hb.le)]
    exact hc a h0 (by rwa [abs_of_nonneg h0] at h)
  · rename_i h0
    rw [abs_neg, abs_of_nonneg (Int.ediv_nonneg (by omega) hb.le)]
    exact hc (-a) (by omega) (by rwa [abs_of_neg (by omega)] at h)

/-! `clamp` and the storage of a coordinate. -/

theorem clamp_range {v lo hi : Int} (h : lo ≤ hi) : lo ≤ clamp v lo hi ∧ clamp v lo hi ≤ hi := by
  unfold clamp
  omega

/-- A value in the range of a signed 16-bit element is stored without loss (R10). -/
theorem coord_toInt {v : Int} (h : |v| ≤ 32767) : (coord v).toInt = v := by
  have := abs_le.mp h
  rw [coord, BitVec.toInt_ofInt, Int.bmod_def]
  norm_num
  omega

/-- A value in `-ONE..ONE` is stored without loss and is in range (R10, R30). -/
theorem coord_inRange {v : Int} (h : |v| ≤ 16384) : (coord v).toInt = v ∧ Coord.InRange (coord v) := by
  have e := coord_toInt (v := v) (by omega)
  exact ⟨e, by unfold Coord.InRange; rw [e]; exact abs_le.mp h⟩

end Sys2Proof.Machine
end

