-- ==== Sys2Proof/Laws/Encoding.lean ====
section
/-! SUPPORT. The fields of command words: of the words the encoder writes, and of a word that agrees with another one on the
fixed bits of a format (R90 to R93). -/

namespace Sys2Proof

/-! Fields of encoded words. -/

theorem writeBit_getLsbD {i : Nat} (h : i < 40) : (1099511627776#41).getLsbD i = false := by
  have : (1099511627776#41) = BitVec.twoPow 41 40 := by decide
  rw [this, BitVec.getLsbD_twoPow]
  simp [Nat.ne_of_gt h]

@[simp] theorem cwWrite_encodeRead (a : Addr) : cwWrite (encodeRead a) = false := by
  simp [cwWrite, encodeRead]

@[simp] theorem cwWrite_encodeWrite (a : Addr) (v : Word) : cwWrite (encodeWrite a v) = true := by
  simp [cwWrite, encodeWrite]

@[simp] theorem cwWrite_encodeCommand (c : BitVec 8) : cwWrite (encodeCommand c) = true := by
  simp [cwWrite, encodeCommand]

@[simp] theorem cwAddr_encodeRead (a : Addr) : cwAddr (encodeRead a) = a := by
  ext i hi
  have : 32 + i < 41 := by omega
  simp [cwAddr, encodeRead, hi, this]

@[simp] theorem cwAddr_encodeWrite (a : Addr) (v : Word) : cwAddr (encodeWrite a v) = a := by
  ext i hi
  have : 32 + i < 41 := by omega
  have h2 := writeBit_getLsbD (i := 32 + i) (by omega)
  have h3 : i < 41 := by omega
  simp [cwAddr, encodeWrite, hi, this, ← BitVec.getLsbD_eq_getElem, h2, h3]

@[simp] theorem cwAddr_encodeCommand (c : BitVec 8) : cwAddr (encodeCommand c) = 0x00#8 := by
  ext i hi
  have h2 := writeBit_getLsbD (i := 32 + i) (by omega)
  have h3 : c.getLsbD (32 + i) = false := BitVec.getLsbD_of_ge _ _ (by omega)
  simp [cwAddr, encodeCommand, h2, h3]

@[simp] theorem cwData_encodeWrite (a : Addr) (v : Word) : cwData (encodeWrite a v) = v := by
  ext i hi
  have h2 := writeBit_getLsbD (i := i) (by omega)
  have : i < 41 := by omega
  simp [cwData, encodeWrite, hi, this, ← BitVec.getLsbD_eq_getElem, h2]

@[simp] theorem cwData_encodeCommand (c : BitVec 8) : (cwData (encodeCommand c)).setWidth 8 = c := by
  ext i hi
  have h2 := writeBit_getLsbD (i := i) (by omega)
  have h3 : i < 41 := by omega
  have h4 : i < 32 := by omega
  simp [cwData, encodeCommand, hi, ← BitVec.getLsbD_eq_getElem, h2, h3, h4]

/-! Fields fixed by a mask. -/

theorem addrMask_getLsbD {i : Nat} (h1 : 32 ≤ i) (h2 : i < 41) : (0x1FF00000000#41).getLsbD i = true := by
  interval_cases i <;> rfl

theorem commandMask_getLsbD {i : Nat} (h : i < 8 ∨ 32 ≤ i) (h2 : i < 41) : (0x1FF000000FF#41).getLsbD i = true := by
  rcases h with h | h <;> interval_cases i <;> rfl

/-- Two words equal under a mask have equal bits wherever the mask is 1. -/
theorem getLsbD_of_mask {cw e m : CmdWord} (h : cw &&& m = e &&& m) {i : Nat} (hm : m.getLsbD i = true) :
    cw.getLsbD i = e.getLsbD i := by
  simpa [hm] using congrArg (fun w : CmdWord => w.getLsbD i) h

theorem cwWrite_of_mask {cw e m : CmdWord} (h : cw &&& m = e &&& m) (hm : m.getLsbD 40 = true) :
    cwWrite cw = cwWrite e := getLsbD_of_mask h hm

theorem cwAddr_of_mask {cw e m : CmdWord} (h : cw &&& m = e &&& m)
    (hm : ∀ i, 32 ≤ i → i < 41 → m.getLsbD i = true) : cwAddr cw = cwAddr e := by
  ext i hi
  have := getLsbD_of_mask h (hm (32 + i) (by omega) (by omega))
  simpa [cwAddr, hi] using this

theorem cwCode_of_mask {cw e m : CmdWord} (h : cw &&& m = e &&& m) (hm : ∀ i, i < 8 → m.getLsbD i = true) :
    (cwData cw).setWidth 8 = (cwData e).setWidth 8 := by
  ext i hi
  have := getLsbD_of_mask h (hm i hi)
  simpa [cwData, hi, show i < 32 by omega] using this

end Sys2Proof
end

