-- ==== Sys2Proof/Laws/Ops.lean ====
section
/-! SUPPORT. What each shared operation does, said once. -/

namespace Sys2Proof.Machine

/-! Completion. -/

theorem returnData_eq_next {v : Word} {s t : State} :
    returnData v s = .next t ↔ t = { s with out := { rdata := some v, events := [] } } := by
  simp [returnData, eq_comm]

theorem returnNothing_eq_next {s t : State} :
    returnNothing s = .next t ↔ t = { s with out := { rdata := none, events := [] } } := by
  simp [returnNothing, eq_comm]

theorem returnEvents_eq_next {ev : List EventWord} {s t : State} :
    returnEvents ev s = .next t ↔ t = { s with out := { rdata := none, events := ev } } := by
  simp [returnEvents, eq_comm]

/-! `emit` (R293). -/

theorem emitButton_eq (u : ButtonId) (k : ButtonEvent) (arg : BitVec 16) (r : Button × List EventWord) :
    emitButton u k arg r =
      ({ r.1 with
          evtStatus := if bitOf r.1.cfg.evtEn k.kind then setStatus r.1.evtStatus k.kind else r.1.evtStatus },
        r.2 ++ if bitOf r.1.cfg.evtEn k.kind then [buttonRecord u k arg] else []) := by
  unfold emitButton
  split <;> simp

theorem emitJoy_eq (k : JoyEvent) (arg : BitVec 16) (r : DirEngine × List EventWord) :
    emitJoy k arg r =
      ({ r.1 with
          jevtStatus := if bitOf r.1.cfg.jevtEn k.kind then setStatus r.1.jevtStatus k.kind else r.1.jevtStatus },
        r.2 ++ if bitOf r.1.cfg.jevtEn k.kind then [joyRecord k arg] else []) := by
  unfold emitJoy
  split <;> simp

/-- The fields of an event record lie side by side (R295). -/
theorem eventRecord_toNat (src kind : BitVec 4) (arg : BitVec 16) :
    (eventRecord src kind arg).toNat = src.toNat * 2 ^ 20 + kind.toNat * 2 ^ 16 + arg.toNat := by
  have h1 := src.isLt
  have h2 := kind.isLt
  have h3 := arg.isLt
  have k1 : src.toNat <<< 20 ||| kind.toNat <<< 16 = (src.toNat * 2 ^ 4 + kind.toNat) <<< 16 := by
    rw [← Nat.shiftLeft_add_eq_or_of_lt (by simp [Nat.shiftLeft_eq]; omega)]
    simp [Nat.shiftLeft_eq]
    omega
  have k2 : src.toNat <<< 20 ||| kind.toNat <<< 16 ||| arg.toNat
      = src.toNat * 2 ^ 20 + kind.toNat * 2 ^ 16 + arg.toNat := by
    rw [k1, ← Nat.shiftLeft_add_eq_or_of_lt h3]
    simp [Nat.shiftLeft_eq]
    omega
  have e1 : src.toNat <<< 20 % 2 ^ 24 = src.toNat <<< 20 :=
    Nat.mod_eq_of_lt (by simp [Nat.shiftLeft_eq]; omega)
  have e2 : kind.toNat <<< 16 % 2 ^ 24 = kind.toNat <<< 16 :=
    Nat.mod_eq_of_lt (by simp [Nat.shiftLeft_eq]; omega)
  simp only [eventRecord, BitVec.toNat_or, BitVec.toNat_shiftLeft, BitVec.toNat_setWidth]
  rw [Nat.mod_eq_of_lt (by omega : src.toNat < 2 ^ 24), Nat.mod_eq_of_lt (by omega : kind.toNat < 2 ^ 24),
    Nat.mod_eq_of_lt (by omega : arg.toNat < 2 ^ 24), e1, e2, k2]

/-! Status bits (R237, R293). -/

theorem getLsbD_setStatus {n : Nat} (st : BitVec n) (k j : Nat) (h : k < n) :
    (setStatus st k).getLsbD j = (st.getLsbD j || decide (j = k)) := by
  simp only [setStatus, BitVec.getLsbD_or, BitVec.getLsbD_twoPow]
  by_cases hj : j = k
  · simp [hj, h]
  · simp [hj, Ne.symm hj]

theorem getLsbD_clearStatus {n : Nat} (st v : BitVec n) (j : Nat) :
    (clearStatus st v).getLsbD j = (st.getLsbD j && !v.getLsbD j) := by
  by_cases hj : j < n
  · simp [clearStatus, hj]
  · simp [clearStatus, BitVec.getLsbD_of_ge _ _ (Nat.le_of_not_lt hj)]

/-! The clock (R110, R111). -/

theorem clockUpdate_of_not_begun (p : Params) (cnt : Nat) (c : Clock) (h : c.clkInit = false) :
    clockUpdate p cnt c = c := by
  simp [clockUpdate, h]

theorem clockUpdate_of_begun (p : Params) (cnt : Nat) (c : Clock) (h : c.clkInit = true) :
    clockUpdate p cnt c =
      { c with
        usAcc := c.usAcc + BitVec.ofNat 64 ((c.frac + counterDelta p.cntBits c.lastCnt cnt) / p.cntPerUs)
        frac := (c.frac + counterDelta p.cntBits c.lastCnt cnt) % p.cntPerUs
        lastCnt := cnt } := by
  simp [clockUpdate, h]

@[simp] theorem clockUpdate_clkInit (p : Params) (cnt : Nat) (c : Clock) :
    (clockUpdate p cnt c).clkInit = c.clkInit := by
  unfold clockUpdate
  split <;> rfl

theorem cntPerUs_pos (p : Params) : 0 < p.cntPerUs := Nat.succ_pos _

theorem cntBits_pos (p : Params) : 1 ≤ p.cntBits := Nat.succ_pos _

theorem cntBits_le (p : Params) : p.cntBits ≤ 32 := p.cntBitsLess1.isLt

theorem sampleCnt_lt (s : State) : sampleCnt s < 2 ^ s.par.cntBits := Nat.mod_lt _ (Nat.two_pow_pos _)

/-! The button (R130 to R141): the parts of a tick, and what no tick touches. -/

@[simp] theorem debounceRising_eq (lvl : Bool) (b : Button) :
    debounceRising lvl b = { b with deb := if b.cfg.debounce.toInt < 0 ∧ lvl = true then true else b.deb } := by
  unfold debounceRising
  split <;> simp_all

@[simp] theorem debounceStable_eq (lvl : Bool) (b : Button) :
    debounceStable lvl b =
      { b with
        deb := if lvl = b.lastRaw ∧ debounceInterval b ≤ since b b.lastChange then lvl else b.deb
        lastChange := if lvl = b.lastRaw then b.lastChange else b.t
        lastRaw := lvl } := by
  unfold debounceStable
  split
  · rename_i h
    subst h
    split <;> rename_i h' <;> simp [h']
  · rename_i h
    simp [h]

/-- The button after steps 1 to 3 of a tick, as the state machine sees it (R130). -/
def preTick (lvl : Bool) (b : Button) : Button := debounce lvl (latchEdges lvl (advanceTime b))

theorem buttonTick_eq (u : ButtonId) (lvl : Bool) (b : Button) :
    buttonTick u lvl b = evaluate u (preTick lvl b) := rfl

/-- Steps 1 to 3 of a tick write the time base, the latches and the debounce elements, and nothing else (R130). -/
theorem preTick_eq (lvl : Bool) (b : Button) :
    preTick lvl b =
      { b with
        t := (preTick lvl b).t
        wasPressed := (preTick lvl b).wasPressed
        wasReleased := (preTick lvl b).wasReleased
        deb := (preTick lvl b).deb
        lastChange := (preTick lvl b).lastChange
        lastRaw := lvl } := by
  simp [preTick, debounce, latchEdges, advanceTime]

@[simp] theorem preTick_cfg (lvl : Bool) (b : Button) : (preTick lvl b).cfg = b.cfg := by rw [preTick_eq]
@[simp] theorem preTick_state (lvl : Bool) (b : Button) : (preTick lvl b).state = b.state := by rw [preTick_eq]
@[simp] theorem preTick_entry (lvl : Bool) (b : Button) : (preTick lvl b).entry = b.entry := by rw [preTick_eq]
@[simp] theorem preTick_nclicks (lvl : Bool) (b : Button) : (preTick lvl b).nclicks = b.nclicks := by rw [preTick_eq]
@[simp] theorem preTick_idleFired (lvl : Bool) (b : Button) : (preTick lvl b).idleFired = b.idleFired := by rw [preTick_eq]
@[simp] theorem preTick_hold (lvl : Bool) (b : Button) : (preTick lvl b).hold = b.hold := by rw [preTick_eq]
@[simp] theorem preTick_dblPending (lvl : Bool) (b : Button) : (preTick lvl b).dblPending = b.dblPending := by rw [preTick_eq]
@[simp] theorem preTick_lastDuring (lvl : Bool) (b : Button) : (preTick lvl b).lastDuring = b.lastDuring := by rw [preTick_eq]
@[simp] theorem preTick_evtStatus (lvl : Bool) (b : Button) : (preTick lvl b).evtStatus = b.evtStatus := by rw [preTick_eq]
@[simp] theorem preTick_lastRaw (lvl : Bool) (b : Button) : (preTick lvl b).lastRaw = lvl := by rw [preTick_eq]
@[simp] theorem preTick_t (lvl : Bool) (b : Button) : (preTick lvl b).t = b.t + b.cfg.tickMs.setWidth 32 := by
  simp [preTick, debounce, latchEdges, advanceTime]

/-- What the debounce filter makes of the debounced level (R133). -/
theorem preTick_deb (lvl : Bool) (b : Button) :
    (preTick lvl b).deb =
      if b.cfg.debounce.toInt < 0 ∧ lvl = true then true
      else if lvl = b.lastRaw ∧ b.cfg.debounce.toInt.natAbs ≤ ((preTick lvl b).t - b.lastChange).toNat then lvl
      else b.deb := by
  rw [preTick_t]
  simp only [preTick, debounce, debounceRising_eq, debounceStable_eq, latchEdges, advanceTime, since, debounceInterval]
  by_cases g : b.cfg.debounce.toInt < 0 ∧ lvl = true
  · rw [if_pos g, if_pos g, g.2]
    simp
  · rw [if_neg g, if_neg g]
    rfl

/-- The evaluation of the state machine leaves the configuration, the time base, the latches and the debounce elements
alone (R134 to R141). -/
theorem evaluate_frame (u : ButtonId) (b : Button) :
    (evaluate u b).1.cfg = b.cfg ∧ (evaluate u b).1.t = b.t ∧ (evaluate u b).1.lastRaw = b.lastRaw ∧
      (evaluate u b).1.lastChange = b.lastChange ∧ (evaluate u b).1.deb = b.deb ∧
      (evaluate u b).1.wasPressed = b.wasPressed ∧ (evaluate u b).1.wasReleased = b.wasReleased := by
  unfold evaluate
  split
  · simp only [stepInit, initPress, initIdle]; split <;> split <;> simp [emitButton_eq]
  · simp only [stepDown]; split <;> [skip; split] <;> simp [emitButton_eq]
  · simp [stepUp]
  · simp only [stepCount]; split <;> [skip; split] <;> simp [emitButton_eq]
  · simp only [stepPress]; split <;> [skip; split] <;> simp [emitButton_eq]
  · simp [stepPressEnd, emitButton_eq]

/-! Direction (R194 to R201). -/

/-- The five event rules leave the configuration and the polar and direction elements alone (R196 to R200). -/
theorem directionEvents_frame (start stop : Bool) (now : Micros) (nx ny : Coord) (d : DirEngine) :
    (directionEvents start stop now nx ny d).1.cfg = d.cfg ∧ (directionEvents start stop now nx ny d).1.mag = d.mag ∧
      (directionEvents start stop now nx ny d).1.ang = d.ang ∧
      (directionEvents start stop now nx ny d).1.curDir = d.curDir ∧
      (directionEvents start stop now nx ny d).1.prevDir = d.prevDir ∧
      (directionEvents start stop now nx ny d).1.tiltActive = d.tiltActive := by
  have h1 (r : DirEngine × List EventWord) :
      (emitTiltStart start now r).1 =
        { r.1 with lastRepeat := (emitTiltStart start now r).1.lastRepeat
                   jevtStatus := (emitTiltStart start now r).1.jevtStatus } := by
    unfold emitTiltStart; split <;> simp [emitJoy_eq]
  have h2 (r : DirEngine × List EventWord) :
      (emitDirChanged r).1 = { r.1 with jevtStatus := (emitDirChanged r).1.jevtStatus } := by
    unfold emitDirChanged; split <;> simp [emitJoy_eq]
  have h3 (r : DirEngine × List EventWord) :
      (emitMove nx ny r).1 =
        { r.1 with lrx := (emitMove nx ny r).1.lrx, lry := (emitMove nx ny r).1.lry
                   jevtStatus := (emitMove nx ny r).1.jevtStatus } := by
    unfold emitMove; split <;> simp [emitJoy_eq]
  have h4 (r : DirEngine × List EventWord) :
      (emitRepeat now r).1 =
        { r.1 with lastRepeat := (emitRepeat now r).1.lastRepeat
                   jevtStatus := (emitRepeat now r).1.jevtStatus } := by
    unfold emitRepeat; split <;> simp [emitJoy_eq]
  have h5 (r : DirEngine × List EventWord) :
      (emitTiltStop stop r).1 = { r.1 with jevtStatus := (emitTiltStop stop r).1.jevtStatus } := by
    unfold emitTiltStop; split <;> simp [emitJoy_eq]
  simp only [directionEvents]
  rw [h5, h4, h3, h2, h1]
  simp

/-! Reset and the moves (R320, R6). -/

theorem takeMove_nil {s : State} (h : s.moves = []) : takeMove s = .next s := by
  simp [takeMove, h]

theorem takeMove_rst {s : State} {rest : List Move} (h : s.moves = .rst :: rest) :
    takeMove s = .next (hardwareReset { s with moves := rest }) := by
  simp [takeMove, h]

theorem takeMove_op {s : State} {cw : CmdWord} {p : Ports} {rest : List Move} (h : s.moves = .op cw p :: rest) :
    takeMove s = runWord cw { s with ports := p, moves := rest } := by
  simp [takeMove, h]

end Sys2Proof.Machine
end

