-- ==== Sys2Proof/Laws/PerInstr.lean ====
section
/-! SUPPORT. The per-instruction family `EncodingFixedBits`: a command word that agrees with an operation's encoding on the
fixed bits of its row decodes to an operation of that row, whatever its other bits are (R91 to R93: the opcode table's `match`
and `mask`). One lemma per constructor. -/

namespace Sys2Proof.Laws

/-- Every word with the fixed bits of `i`'s row decodes to that row. -/
def EncodingFixedBits.Statement (i : Instr) : Prop :=
  ∀ cw : CmdWord, cw &&& fixedMask i = encode i &&& fixedMask i →
    ∃ j, decode cw = .ok j ∧ mnemonicOf j = mnemonicOf i

theorem decode_read {cw : CmdWord} {a : Addr} {j : Instr} (h : cw &&& 0x1FF00000000#41 = encodeRead a &&& 0x1FF00000000#41)
    (hj : decodeRead a = some j) : decode cw = .ok j := by
  have hw := cwWrite_of_mask h (addrMask_getLsbD (by omega) (by omega))
  have ha := cwAddr_of_mask h (fun i => addrMask_getLsbD)
  simp only [cwWrite_encodeRead] at hw
  simp only [cwAddr_encodeRead] at ha
  simp [decode, hw, ha, hj]

theorem decode_write {cw : CmdWord} {a : Addr} {v : Word} {f : Word → Instr}
    (h : cw &&& 0x1FF00000000#41 = encodeWrite a v &&& 0x1FF00000000#41) (h0 : a ≠ 0x00#8)
    (hj : ∀ d, decodeWrite a d = some (f d)) : decode cw = .ok (f (cwData cw)) := by
  have hw := cwWrite_of_mask h (addrMask_getLsbD (by omega) (by omega))
  have ha := cwAddr_of_mask h (fun i => addrMask_getLsbD)
  simp only [cwWrite_encodeWrite] at hw
  simp only [cwAddr_encodeWrite] at ha
  simp [decode, hw, ha, h0, hj]

theorem decode_command {cw : CmdWord} {c : BitVec 8} {j : Instr}
    (h : cw &&& 0x1FF000000FF#41 = encodeCommand c &&& 0x1FF000000FF#41) (hj : decodeCommand c = some j) :
    decode cw = .ok j := by
  have hw := cwWrite_of_mask h (commandMask_getLsbD (Or.inr (by omega)) (by omega))
  have ha := cwAddr_of_mask h (fun i h1 h2 => commandMask_getLsbD (Or.inr h1) h2)
  have hc := cwCode_of_mask h (fun i h1 => commandMask_getLsbD (Or.inl h1) (by omega))
  simp only [cwWrite_encodeCommand] at hw
  simp only [cwAddr_encodeCommand] at ha
  simp only [cwData_encodeCommand] at hc
  simp [decode, hw, ha, hc, hj]

namespace EncodingFixedBits

theorem rdCmd : Statement .rdCmd := fun _ h => ⟨.rdCmd, decode_read h rfl, rfl⟩

theorem rdStatus : Statement .rdStatus := fun _ h => ⟨.rdStatus, decode_read h rfl, rfl⟩

theorem rdNowUs : Statement .rdNowUs := fun _ h => ⟨.rdNowUs, decode_read h rfl, rfl⟩

theorem rdNowMs : Statement .rdNowMs := fun _ h => ⟨.rdNowMs, decode_read h rfl, rfl⟩

theorem rdEtUs : Statement .rdEtUs := fun _ h => ⟨.rdEtUs, decode_read h rfl, rfl⟩

theorem rdEtMs : Statement .rdEtMs := fun _ h => ⟨.rdEtMs, decode_read h rfl, rfl⟩

theorem rdB0Debounce : Statement .rdB0Debounce := fun _ h => ⟨.rdB0Debounce, decode_read h rfl, rfl⟩

theorem rdB0ClickMs : Statement .rdB0ClickMs := fun _ h => ⟨.rdB0ClickMs, decode_read h rfl, rfl⟩

theorem rdB0PressMs : Statement .rdB0PressMs := fun _ h => ⟨.rdB0PressMs, decode_read h rfl, rfl⟩

theorem rdB0DuringMs : Statement .rdB0DuringMs := fun _ h => ⟨.rdB0DuringMs, decode_read h rfl, rfl⟩

theorem rdB0IdleMs : Statement .rdB0IdleMs := fun _ h => ⟨.rdB0IdleMs, decode_read h rfl, rfl⟩

theorem rdB0TickMs : Statement .rdB0TickMs := fun _ h => ⟨.rdB0TickMs, decode_read h rfl, rfl⟩

theorem rdB0EvtEn : Statement .rdB0EvtEn := fun _ h => ⟨.rdB0EvtEn, decode_read h rfl, rfl⟩

theorem rdB0EvtStatus : Statement .rdB0EvtStatus := fun _ h => ⟨.rdB0EvtStatus, decode_read h rfl, rfl⟩

theorem rdB0State : Statement .rdB0State := fun _ h => ⟨.rdB0State, decode_read h rfl, rfl⟩

theorem rdB0Nclicks : Statement .rdB0Nclicks := fun _ h => ⟨.rdB0Nclicks, decode_read h rfl, rfl⟩

theorem rdB0HoldMs : Statement .rdB0HoldMs := fun _ h => ⟨.rdB0HoldMs, decode_read h rfl, rfl⟩

theorem rdB0Waspressed : Statement .rdB0Waspressed := fun _ h => ⟨.rdB0Waspressed, decode_read h rfl, rfl⟩

theorem rdB0Wasreleased : Statement .rdB0Wasreleased := fun _ h => ⟨.rdB0Wasreleased, decode_read h rfl, rfl⟩

theorem rdB0Dblclicked : Statement .rdB0Dblclicked := fun _ h => ⟨.rdB0Dblclicked, decode_read h rfl, rfl⟩

theorem rdB0Time : Statement .rdB0Time := fun _ h => ⟨.rdB0Time, decode_read h rfl, rfl⟩

theorem rdB0Maxclicks : Statement .rdB0Maxclicks := fun _ h => ⟨.rdB0Maxclicks, decode_read h rfl, rfl⟩

theorem rdB1Debounce : Statement .rdB1Debounce := fun _ h => ⟨.rdB1Debounce, decode_read h rfl, rfl⟩

theorem rdB1ClickMs : Statement .rdB1ClickMs := fun _ h => ⟨.rdB1ClickMs, decode_read h rfl, rfl⟩

theorem rdB1PressMs : Statement .rdB1PressMs := fun _ h => ⟨.rdB1PressMs, decode_read h rfl, rfl⟩

theorem rdB1DuringMs : Statement .rdB1DuringMs := fun _ h => ⟨.rdB1DuringMs, decode_read h rfl, rfl⟩

theorem rdB1IdleMs : Statement .rdB1IdleMs := fun _ h => ⟨.rdB1IdleMs, decode_read h rfl, rfl⟩

theorem rdB1TickMs : Statement .rdB1TickMs := fun _ h => ⟨.rdB1TickMs, decode_read h rfl, rfl⟩

theorem rdB1EvtEn : Statement .rdB1EvtEn := fun _ h => ⟨.rdB1EvtEn, decode_read h rfl, rfl⟩

theorem rdB1EvtStatus : Statement .rdB1EvtStatus := fun _ h => ⟨.rdB1EvtStatus, decode_read h rfl, rfl⟩

theorem rdB1State : Statement .rdB1State := fun _ h => ⟨.rdB1State, decode_read h rfl, rfl⟩

theorem rdB1Nclicks : Statement .rdB1Nclicks := fun _ h => ⟨.rdB1Nclicks, decode_read h rfl, rfl⟩

theorem rdB1HoldMs : Statement .rdB1HoldMs := fun _ h => ⟨.rdB1HoldMs, decode_read h rfl, rfl⟩

theorem rdB1Waspressed : Statement .rdB1Waspressed := fun _ h => ⟨.rdB1Waspressed, decode_read h rfl, rfl⟩

theorem rdB1Wasreleased : Statement .rdB1Wasreleased := fun _ h => ⟨.rdB1Wasreleased, decode_read h rfl, rfl⟩

theorem rdB1Dblclicked : Statement .rdB1Dblclicked := fun _ h => ⟨.rdB1Dblclicked, decode_read h rfl, rfl⟩

theorem rdB1Time : Statement .rdB1Time := fun _ h => ⟨.rdB1Time, decode_read h rfl, rfl⟩

theorem rdB1Maxclicks : Statement .rdB1Maxclicks := fun _ h => ⟨.rdB1Maxclicks, decode_read h rfl, rfl⟩

theorem rdJoyCtrl : Statement .rdJoyCtrl := fun _ h => ⟨.rdJoyCtrl, decode_read h rfl, rfl⟩

theorem rdAlpha : Statement .rdAlpha := fun _ h => ⟨.rdAlpha, decode_read h rfl, rfl⟩

theorem rdDeadzone : Statement .rdDeadzone := fun _ h => ⟨.rdDeadzone, decode_read h rfl, rfl⟩

theorem rdMoveEps : Statement .rdMoveEps := fun _ h => ⟨.rdMoveEps, decode_read h rfl, rfl⟩

theorem rdEnterTh : Statement .rdEnterTh := fun _ h => ⟨.rdEnterTh, decode_read h rfl, rfl⟩

theorem rdExitTh : Statement .rdExitTh := fun _ h => ⟨.rdExitTh, decode_read h rfl, rfl⟩

theorem rdRepeatMs : Statement .rdRepeatMs := fun _ h => ⟨.rdRepeatMs, decode_read h rfl, rfl⟩

theorem rdCalN : Statement .rdCalN := fun _ h => ⟨.rdCalN, decode_read h rfl, rfl⟩

theorem rdCalxMin : Statement .rdCalxMin := fun _ h => ⟨.rdCalxMin, decode_read h rfl, rfl⟩

theorem rdCalxCenter : Statement .rdCalxCenter := fun _ h => ⟨.rdCalxCenter, decode_read h rfl, rfl⟩

theorem rdCalxMax : Statement .rdCalxMax := fun _ h => ⟨.rdCalxMax, decode_read h rfl, rfl⟩

theorem rdCalyMin : Statement .rdCalyMin := fun _ h => ⟨.rdCalyMin, decode_read h rfl, rfl⟩

theorem rdCalyCenter : Statement .rdCalyCenter := fun _ h => ⟨.rdCalyCenter, decode_read h rfl, rfl⟩

theorem rdCalyMax : Statement .rdCalyMax := fun _ h => ⟨.rdCalyMax, decode_read h rfl, rfl⟩

theorem rdJevtEn : Statement .rdJevtEn := fun _ h => ⟨.rdJevtEn, decode_read h rfl, rfl⟩

theorem rdJevtStatus : Statement .rdJevtStatus := fun _ h => ⟨.rdJevtStatus, decode_read h rfl, rfl⟩

theorem rdRawx : Statement .rdRawx := fun _ h => ⟨.rdRawx, decode_read h rfl, rfl⟩

theorem rdRawy : Statement .rdRawy := fun _ h => ⟨.rdRawy, decode_read h rfl, rfl⟩

theorem rdNx : Statement .rdNx := fun _ h => ⟨.rdNx, decode_read h rfl, rfl⟩

theorem rdNy : Statement .rdNy := fun _ h => ⟨.rdNy, decode_read h rfl, rfl⟩

theorem rdMag : Statement .rdMag := fun _ h => ⟨.rdMag, decode_read h rfl, rfl⟩

theorem rdAngle : Statement .rdAngle := fun _ h => ⟨.rdAngle, decode_read h rfl, rfl⟩

theorem rdDir8 : Statement .rdDir8 := fun _ h => ⟨.rdDir8, decode_read h rfl, rfl⟩

theorem rdFiltx : Statement .rdFiltx := fun _ h => ⟨.rdFiltx, decode_read h rfl, rfl⟩

theorem rdFilty : Statement .rdFilty := fun _ h => ⟨.rdFilty, decode_read h rfl, rfl⟩

theorem wrEtUs (v : Word) : Statement (.wrEtUs v) := fun cw h =>
  ⟨.wrEtUs (cwData cw), decode_write h (by decide) (fun _ => rfl), rfl⟩

theorem wrEtMs (v : Word) : Statement (.wrEtMs v) := fun cw h =>
  ⟨.wrEtMs (cwData cw), decode_write h (by decide) (fun _ => rfl), rfl⟩

theorem wrB0Debounce (v : Word) : Statement (.wrB0Debounce v) := fun cw h =>
  ⟨.wrB0Debounce (cwData cw), decode_write h (by decide) (fun _ => rfl), rfl⟩

theorem wrB0ClickMs (v : Word) : Statement (.wrB0ClickMs v) := fun cw h =>
  ⟨.wrB0ClickMs (cwData cw), decode_write h (by decide) (fun _ => rfl), rfl⟩

theorem wrB0PressMs (v : Word) : Statement (.wrB0PressMs v) := fun cw h =>
  ⟨.wrB0PressMs (cwData cw), decode_write h (by decide) (fun _ => rfl), rfl⟩

theorem wrB0DuringMs (v : Word) : Statement (.wrB0DuringMs v) := fun cw h =>
  ⟨.wrB0DuringMs (cwData cw), decode_write h (by decide) (fun _ => rfl), rfl⟩

theorem wrB0IdleMs (v : Word) : Statement (.wrB0IdleMs v) := fun cw h =>
  ⟨.wrB0IdleMs (cwData cw), decode_write h (by decide) (fun _ => rfl), rfl⟩

theorem wrB0TickMs (v : Word) : Statement (.wrB0TickMs v) := fun cw h =>
  ⟨.wrB0TickMs (cwData cw), decode_write h (by decide) (fun _ => rfl), rfl⟩

theorem wrB0EvtEn (v : Word) : Statement (.wrB0EvtEn v) := fun cw h =>
  ⟨.wrB0EvtEn (cwData cw), decode_write h (by decide) (fun _ => rfl), rfl⟩

theorem wrB0EvtStatus (v : Word) : Statement (.wrB0EvtStatus v) := fun cw h =>
  ⟨.wrB0EvtStatus (cwData cw), decode_write h (by decide) (fun _ => rfl), rfl⟩

theorem wrB1Debounce (v : Word) : Statement (.wrB1Debounce v) := fun cw h =>
  ⟨.wrB1Debounce (cwData cw), decode_write h (by decide) (fun _ => rfl), rfl⟩

theorem wrB1ClickMs (v : Word) : Statement (.wrB1ClickMs v) := fun cw h =>
  ⟨.wrB1ClickMs (cwData cw), decode_write h (by decide) (fun _ => rfl), rfl⟩

theorem wrB1PressMs (v : Word) : Statement (.wrB1PressMs v) := fun cw h =>
  ⟨.wrB1PressMs (cwData cw), decode_write h (by decide) (fun _ => rfl), rfl⟩

theorem wrB1DuringMs (v : Word) : Statement (.wrB1DuringMs v) := fun cw h =>
  ⟨.wrB1DuringMs (cwData cw), decode_write h (by decide) (fun _ => rfl), rfl⟩

theorem wrB1IdleMs (v : Word) : Statement (.wrB1IdleMs v) := fun cw h =>
  ⟨.wrB1IdleMs (cwData cw), decode_write h (by decide) (fun _ => rfl), rfl⟩

theorem wrB1TickMs (v : Word) : Statement (.wrB1TickMs v) := fun cw h =>
  ⟨.wrB1TickMs (cwData cw), decode_write h (by decide) (fun _ => rfl), rfl⟩

theorem wrB1EvtEn (v : Word) : Statement (.wrB1EvtEn v) := fun cw h =>
  ⟨.wrB1EvtEn (cwData cw), decode_write h (by decide) (fun _ => rfl), rfl⟩

theorem wrB1EvtStatus (v : Word) : Statement (.wrB1EvtStatus v) := fun cw h =>
  ⟨.wrB1EvtStatus (cwData cw), decode_write h (by decide) (fun _ => rfl), rfl⟩

theorem wrJoyCtrl (v : Word) : Statement (.wrJoyCtrl v) := fun cw h =>
  ⟨.wrJoyCtrl (cwData cw), decode_write h (by decide) (fun _ => rfl), rfl⟩

theorem wrAlpha (v : Word) : Statement (.wrAlpha v) := fun cw h =>
  ⟨.wrAlpha (cwData cw), decode_write h (by decide) (fun _ => rfl), rfl⟩

theorem wrDeadzone (v : Word) : Statement (.wrDeadzone v) := fun cw h =>
  ⟨.wrDeadzone (cwData cw), decode_write h (by decide) (fun _ => rfl), rfl⟩

theorem wrMoveEps (v : Word) : Statement (.wrMoveEps v) := fun cw h =>
  ⟨.wrMoveEps (cwData cw), decode_write h (by decide) (fun _ => rfl), rfl⟩

theorem wrEnterTh (v : Word) : Statement (.wrEnterTh v) := fun cw h =>
  ⟨.wrEnterTh (cwData cw), decode_write h (by decide) (fun _ => rfl), rfl⟩

theorem wrExitTh (v : Word) : Statement (.wrExitTh v) := fun cw h =>
  ⟨.wrExitTh (cwData cw), decode_write h (by decide) (fun _ => rfl), rfl⟩

theorem wrRepeatMs (v : Word) : Statement (.wrRepeatMs v) := fun cw h =>
  ⟨.wrRepeatMs (cwData cw), decode_write h (by decide) (fun _ => rfl), rfl⟩

theorem wrCalN (v : Word) : Statement (.wrCalN v) := fun cw h =>
  ⟨.wrCalN (cwData cw), decode_write h (by decide) (fun _ => rfl), rfl⟩

theorem wrCalxMin (v : Word) : Statement (.wrCalxMin v) := fun cw h =>
  ⟨.wrCalxMin (cwData cw), decode_write h (by decide) (fun _ => rfl), rfl⟩

theorem wrCalxCenter (v : Word) : Statement (.wrCalxCenter v) := fun cw h =>
  ⟨.wrCalxCenter (cwData cw), decode_write h (by decide) (fun _ => rfl), rfl⟩

theorem wrCalxMax (v : Word) : Statement (.wrCalxMax v) := fun cw h =>
  ⟨.wrCalxMax (cwData cw), decode_write h (by decide) (fun _ => rfl), rfl⟩

theorem wrCalyMin (v : Word) : Statement (.wrCalyMin v) := fun cw h =>
  ⟨.wrCalyMin (cwData cw), decode_write h (by decide) (fun _ => rfl), rfl⟩

theorem wrCalyCenter (v : Word) : Statement (.wrCalyCenter v) := fun cw h =>
  ⟨.wrCalyCenter (cwData cw), decode_write h (by decide) (fun _ => rfl), rfl⟩

theorem wrCalyMax (v : Word) : Statement (.wrCalyMax v) := fun cw h =>
  ⟨.wrCalyMax (cwData cw), decode_write h (by decide) (fun _ => rfl), rfl⟩

theorem wrJevtEn (v : Word) : Statement (.wrJevtEn v) := fun cw h =>
  ⟨.wrJevtEn (cwData cw), decode_write h (by decide) (fun _ => rfl), rfl⟩

theorem wrJevtStatus (v : Word) : Statement (.wrJevtStatus v) := fun cw h =>
  ⟨.wrJevtStatus (cwData cw), decode_write h (by decide) (fun _ => rfl), rfl⟩

theorem nop : Statement .nop := fun _ h => ⟨.nop, decode_command h rfl, rfl⟩

theorem beginClock : Statement .beginClock := fun _ h => ⟨.beginClock, decode_command h rfl, rfl⟩

theorem bTick : Statement .bTick := fun _ h => ⟨.bTick, decode_command h rfl, rfl⟩

theorem jTick : Statement .jTick := fun _ h => ⟨.jTick, decode_command h rfl, rfl⟩

theorem bReset0 : Statement .bReset0 := fun _ h => ⟨.bReset0, decode_command h rfl, rfl⟩

theorem bReset1 : Statement .bReset1 := fun _ h => ⟨.bReset1, decode_command h rfl, rfl⟩

theorem calibrate : Statement .calibrate := fun _ h => ⟨.calibrate, decode_command h rfl, rfl⟩

theorem etReset : Statement .etReset := fun _ h => ⟨.etReset, decode_command h rfl, rfl⟩

end EncodingFixedBits

end Sys2Proof.Laws
end

