-- ==== Sys2Proof/Tests/Slice0.lean ====
section
/-! SUPPORT. Tests. Expected values come from spec/95_test_vectors.md (the vector is named in each docstring) or are worked
out by hand from the rule named. After them stand the witnesses: for each obligation with hypotheses, concrete values that
meet them. -/

namespace Sys2Proof.Tests

open Sys2Proof.Machine Sys2Proof.Claims

/-! ## Helpers -/

/-- What `f` says of the next state. -/
def after {α : Type} (o : Host.Outcome State Fault Refusal) (f : State → α) : Option α :=
  match o with
  | .next t => some (f t)
  | .fault _ => none
  | .refused _ => none

/-- The read data of the operation. -/
def rdata (o : Host.Outcome State Fault Refusal) : Option Word := (after o fun t => t.out.rdata).join

/-- Reset with `CNT_BITS` = 24, `CNT_PER_US` = 1 (section 2.2). -/
def s24 : State := { State.reset with par := ⟨23, 0⟩ }

/-- Reset with `CNT_BITS` = 24, `CNT_PER_US` = 120 (section 2.2). -/
def s120 : State := { State.reset with par := ⟨23, 119⟩ }

/-- The state with `cnt_in` at the value. -/
def cnt (n : Nat) (s : State) : State := { s with ports := { s.ports with cnt := n } }

/-- The clock begun, at the values. -/
def begun (last frac us : Nat) (s : State) : State :=
  { s with clk := { clkInit := true, lastCnt := last, frac := frac, usAcc := BitVec.ofNat 64 us } }

/-- A button in the state, last level seen and debounced as given, entered at 0, at the time. -/
def button (st : FsmState) (lvl : Bool) (t : Nat) : Button :=
  { Button.reset with state := st, lastRaw := lvl, deb := lvl, t := BitVec.ofNat 32 t }

/-- Every event kind enabled. -/
def loud (b : Button) : Button := { b with cfg := { b.cfg with evtEn := 0x1FF } }

/-- The state with the analog pair on the ports and every joystick event enabled. -/
def stick (x y : Nat) (s : State) : State :=
  { s with
    ports := { s.ports with adcX := BitVec.ofNat 12 x, adcY := BitVec.ofNat 12 y }
    de := { s.de with cfg := { s.de.cfg with jevtEn := 0x3F } } }

/-! ## Encoding (section 2.1): each word is written out from the spec's fields -/

/-- V-E11, format HR: `w` = 0, `addr` = 0x01, junk data. -/
theorem test_decode_read_ignores_data : decode (0#1 ++ 0x01#8 ++ 0xDEADBEEF#32) = .ok .rdStatus := by decide

/-- R91: `w` = 0, `addr` = 0x28 is the state of `B1`; `addr` = 0x06 the timer; `addr` = 0x00 the command register. -/
theorem test_decode_reads :
    decode (0#1 ++ 0x28#8 ++ 0#32) = .ok .rdB1State ∧ decode (0#1 ++ 0x06#8 ++ 0#32) = .ok .rdEtUs ∧
      decode (0#1 ++ 0x00#8 ++ 0#32) = .ok .rdCmd ∧ decode (0#1 ++ 0x46#8 ++ 0#32) = .ok .rdDir8 := by decide

/-- V-E12, V-E13, V-E14, format HW: `w` = 1, `addr`, `data`. -/
theorem test_decode_writes :
    decode (1#1 ++ 0x10#8 ++ 0xFFFFFFEC#32) = .ok (.wrB0Debounce 0xFFFFFFEC#32) ∧
      decode (1#1 ++ 0x26#8 ++ 0x1FF#32) = .ok (.wrB1EvtEn 0x1FF#32) ∧
      decode (1#1 ++ 0x31#8 ++ 8192#32) = .ok (.wrAlpha 8192#32) ∧
      decode (1#1 ++ 0x07#8 ++ 7#32) = .ok (.wrEtMs 7#32) := by decide

/-- V-E1 to V-E8, format HC: `w` = 1, `addr` = 0, the code in `data[7:0]`. -/
theorem test_decode_commands :
    decode 0x10000000000#41 = .ok .nop ∧ decode 0x10000000001#41 = .ok .beginClock ∧
      decode 0x10000000003#41 = .ok .jTick ∧ decode 0x10000000004#41 = .ok .bReset0 ∧
      decode 0x10000000005#41 = .ok .bReset1 ∧ decode 0x10000000006#41 = .ok .calibrate ∧
      decode 0x10000000007#41 = .ok .etReset ∧ decode 0x100ABCDEF02#41 = .ok .bTick := by decide

/-- V-E9, V-E16, V-E17, V-E18: words that are no row of the table, each with its reason. -/
theorem test_decode_names_the_rest :
    decode 0x10000000008#41 = .error (.reservedCommand 0x08#8) ∧
      decode 0x00200000000#41 = .error (.unmappedRead 0x02#8) ∧
      decode 0x14F12345678#41 = .error (.unmappedWrite 0x4F#8) ∧
      decode 0x118000000FF#41 = .error (.readOnlyWrite 0x18#8) := by decide

/-- V-E12, V-E15, V-E19: the encoder writes the words of the table. -/
theorem test_encode :
    encode (.wrB0Debounce 0xFFFFFFEC#32) = 0x110FFFFFFEC#41 ∧ encode .rdDir8 = 0x04600000000#41 ∧
      encode .rdCmd = 0x00000000000#41 ∧ encode .etReset = 0x10000000007#41 := by decide

/-- The table's numbering of bits is the command word's own; a word wider than the port is cut off. -/
theorem test_decodeTableWord :
    decodeTableWord 48 0x10000000006 = some .calibrate ∧ decodeTableWord 41 0x13100002000 = some (.wrAlpha 8192#32) ∧
      decodeTableWord 48 0x00200000000 = none := by decide

/-- The next step runs the word placed by `withFetchWord` (V-E6's neighbour V-E2: BEGIN starts the clock). -/
theorem test_step_runs_the_fetched_word :
    after (step (State.reset.withFetchWord 48 0x10000000001)) (fun t => t.clk.clkInit) = some true := by decide

/-- Event records of section 2.1. -/
theorem test_event_records :
    buttonRecord .b0 .click 1 = 0x020001#24 ∧ buttonRecord .b1 .multiClick 5 = 0x140005#24 ∧
      buttonRecord .b0 .idle 0 = 0x080000#24 ∧ joyRecord .dirChanged 3 = 0x230003#24 ∧
      joyRecord .center 0 = 0x250000#24 := by decide

/-! ## Well-formedness: what each check refuses -/

/-- A count wider than `cnt_in` (R60) is refused, the widest that fits is not. -/
theorem test_wf_port_too_wide :
    Ports.wf ⟨23, 0⟩ { quietPorts with cnt := 2 ^ 24 } = false ∧
      Ports.wf ⟨23, 0⟩ { quietPorts with cnt := 2 ^ 24 - 1 } = true ∧
      Move.wf ⟨23, 0⟩ (.op (encode .rdNowUs) { quietPorts with cnt := 2 ^ 24 }) = false := by decide

/-- R99: a repetition of 0 ticks, a start count too wide, and a kind that is none of the nine are refused. -/
theorem test_wf_pseudo :
    PseudoOp.wf ⟨23, 0⟩ (.bticks 0 true) = false ∧ PseudoOp.wf ⟨23, 0⟩ (.jticks 0 0 1 0 0 true) = false ∧
      PseudoOp.wf ⟨23, 0⟩ (.jticks 1 (2 ^ 24) 1 0 0 true) = false ∧
      PseudoOp.wf ⟨23, 0⟩ (.setEvt .b0 [1, 9]) = false ∧ PseudoOp.wf ⟨23, 0⟩ (.setEvt .b0 [1, 8]) = true := by decide

/-- A line with nothing but its mnemonic. -/
def line (m : String) : AsmLine := { mnemonic := m, value := none, cnt := none, lvl := none, xy := none, samples := none }

/-- R98: an unknown mnemonic, a write without its value, a read with one, a value out of range. -/
theorem test_wf_line_value :
    AsmLine.wf ⟨23, 0⟩ 4 (line "FETCH") = false ∧ AsmLine.wf ⟨23, 0⟩ 4 (line "WR.ALPHA") = false ∧
      AsmLine.wf ⟨23, 0⟩ 4 { line "RD.ALPHA" with value := some 1 } = false ∧
      AsmLine.wf ⟨23, 0⟩ 4 { line "WR.ALPHA" with value := some (2 ^ 32) } = false ∧
      AsmLine.wf ⟨23, 0⟩ 4 { line "WR.ALPHA" with value := some (-20) } = true := by decide +kernel

/-- R97, R98: a sampling operation without its count or level, an operation with a port it does not have, a count or a
sample too wide, and a number of samples that is not `CAL_N`. -/
theorem test_wf_line_ports :
    AsmLine.wf ⟨23, 0⟩ 4 (line "RD.NOW_US") = false ∧ AsmLine.wf ⟨23, 0⟩ 4 (line "BTICK") = false ∧
      AsmLine.wf ⟨23, 0⟩ 4 { line "NOP" with cnt := some 1 } = false ∧
      AsmLine.wf ⟨23, 0⟩ 4 { line "BEGIN" with cnt := some (2 ^ 24) } = false ∧
      AsmLine.wf ⟨23, 0⟩ 4 { line "JTICK" with cnt := some 1, lvl := some true, xy := some (4096, 0) } = false ∧
      AsmLine.wf ⟨23, 0⟩ 4 { line "JTICK" with cnt := some 1, lvl := some true, xy := some (4095, 0) } = true ∧
      AsmLine.wf ⟨23, 0⟩ 4 { line "CALIBRATE" with samples := some [(1, 1)] } = false ∧
      AsmLine.wf ⟨23, 0⟩ 1 { line "CALIBRATE" with samples := some [(1, 1)] } = true := by decide +kernel

/-- R98, V-E12: a negative value is its two's-complement pattern. -/
theorem test_line_move :
    lineMove { line "WR.B0_DEBOUNCE" with value := some (-20) } = some (.op 0x110FFFFFFEC#41 quietPorts) := by
  decide +kernel

/-- R99: the `k`-th JTICK samples `C - k*S`, modulo 2^24 (V-J3, tick 3). -/
theorem test_tickCnt : tickCnt ⟨23, 0⟩ 0xFFFFFF 10000 3 = 0xFF8ACF ∧ tickCnt ⟨23, 0⟩ 5 10 1 = 0xFFFFFB := by decide

/-! ## Register access -/

/-- V-R1: a few reads after reset. -/
theorem test_reset_reads :
    rdata (exec .rdB0Debounce State.reset) = some 50 ∧ rdata (exec .rdB1State State.reset) = some 0x40 ∧
      rdata (exec .rdJoyCtrl State.reset) = some 0x18 ∧ rdata (exec .rdDir8 State.reset) = some 0x088 ∧
      rdata (exec .rdB0Maxclicks State.reset) = some 2 ∧ rdata (exec .rdCalxCenter State.reset) = some 2048 := by decide

/-- V-R2: the clamped writes. -/
theorem test_write_clamps :
    after (exec (.wrAlpha 20000) State.reset) (fun t => t.ax.cfg.alpha.toNat) = some 16384 ∧
      after (exec (.wrAlpha 0x10000) State.reset) (fun t => t.ax.cfg.alpha.toNat) = some 0 ∧
      after (exec (.wrDeadzone 0xFFFFFFFF) State.reset) (fun t => t.ax.cfg.deadzone.toNat) = some 16383 ∧
      after (exec (.wrExitTh 0xFFFF) State.reset) (fun t => t.de.cfg.exitTh.toNat) = some 16384 ∧
      after (exec (.wrCalN 0x100) State.reset) (fun t => t.ax.cfg.calN.toNat) = some 1 ∧
      after (exec (.wrCalN 0x1FF) State.reset) (fun t => t.ax.cfg.calN.toNat) = some 255 := by decide

/-- V-R2: the plain writes keep the low bits. -/
theorem test_write_truncates :
    after (exec (.wrB1EvtEn 0xFFFFFFFF) State.reset) (fun t => t.b1.cfg.evtEn.toNat) = some 0x1FF ∧
      after (exec (.wrJevtEn 0xFFFFFFFF) State.reset) (fun t => t.de.cfg.jevtEn.toNat) = some 0x3F ∧
      after (exec (.wrB0TickMs 0x12345678) State.reset) (fun t => t.b0.cfg.tickMs.toNat) = some 0x5678 ∧
      after (exec (.wrCalxMin 0x1FFF) State.reset) (fun t => t.ax.cfg.calX.min.toNat) = some 0xFFF := by decide

/-- V-R2: `DEBOUNCE` is stored in 16 bits and read back sign-extended. -/
theorem test_debounce_sign :
    rdata (exec .rdB0Debounce { State.reset with b0 := { Button.reset with cfg := { Button.reset.cfg with debounce := 0x8000 } } })
      = some 0xFFFF8000 := by decide

/-- V-R3: write 1 to clear. -/
theorem test_write_one_to_clear :
    after (exec (.wrB0EvtStatus 0x001) { State.reset with b0 := { Button.reset with evtStatus := 0x005 } })
      (fun t => t.b0.evtStatus.toNat) = some 0x004 := by decide

/-- V-R4: the calibration registers read the corrected values. -/
theorem test_calibration_reads :
    let s : State := { State.reset with ax := { Axis.reset with cfg := { Axis.reset.cfg with
      calX := { min := 100, center := 2048, max := 50 } } } }
    rdata (exec .rdCalxMin s) = some 50 ∧ rdata (exec .rdCalxCenter s) = some 75 ∧
      rdata (exec .rdCalxMax s) = some 100 := by decide

/-- V-R5: `B<i>_STATE` in Press with the level active, after an idle period. -/
theorem test_state_word : stateWord { button .press true 0 with idleFired := true } = 0xBC#32 := by decide

/-- E10: a latch is returned once. -/
theorem test_latch_read :
    let s : State := { State.reset with b0 := { Button.reset with wasPressed := true } }
    rdata (exec .rdB0Waspressed s) = some 1 ∧ after (exec .rdB0Waspressed s) (fun t => t.b0.wasPressed) = some false := by
  decide

/-! ## Time (section 2.2) -/

/-- V-T1: before BEGIN the read is 0 and the sample is discarded. -/
theorem test_now_before_begin :
    rdata (exec .rdNowUs (cnt 500 s24)) = some 0 ∧
      after (exec .rdNowUs (cnt 500 s24)) (fun t => t.clk.lastCnt) = some 0 := by decide

/-- V-T2: BEGIN takes the sample. -/
theorem test_begin :
    after (exec .beginClock (cnt 1000 s24)) (fun t => t.clk) = some ⟨true, 1000, 0, 0⟩ := by decide

/-- V-T5: a second BEGIN changes nothing. -/
theorem test_begin_again :
    after (exec .beginClock (cnt 5 (begun 0xFFFFF0 0 1016 s24))) (fun t => t.clk) = some ⟨true, 0xFFFFF0, 0, 1016⟩ := by
  decide

/-- V-T3, V-T4: microseconds, across the counter's wrap. -/
theorem test_now_us :
    rdata (exec .rdNowUs (cnt 400 (begun 1000 0 0 s24))) = some 600 ∧
      rdata (exec .rdNowUs (cnt 0xFFFFF0 (begun 400 0 600 s24))) = some 1016 := by decide

/-- V-T6: whole milliseconds. -/
theorem test_now_ms : rdata (exec .rdNowMs (cnt 0xFFF820 (begun 0xFFFFF0 0 1016 s24))) = some 3 := by decide

/-- V-T11, V-T12: the remainder is carried. -/
theorem test_remainder :
    after (exec .rdNowUs (cnt 0x89 (begun 0x100 0 0 s120))) (fun t => t.clk) = some ⟨true, 0x89, 119, 0⟩ ∧
      after (exec .rdNowUs (cnt 0x88 (begun 0x89 119 0 s120))) (fun t => t.clk) = some ⟨true, 0x88, 0, 1⟩ := by decide

/-- V-T7: ETRESET stores the time. -/
theorem test_etreset :
    after (exec .etReset (cnt 900 (begun 1000 0 0 s24))) (fun t => t.etOff) = some 100 := by decide

/-- V-T7: the timer's reads. -/
theorem test_et_reads :
    let s := cnt 650 { begun 900 0 100 s24 with etOff := 100 }
    rdata (exec .rdEtUs s) = some 250 ∧ rdata (exec .rdEtMs s) = some 0 := by decide

/-- V-T8: an assigned duration in milliseconds. -/
theorem test_write_et_ms :
    after (exec (.wrEtMs 7) (cnt 650 (begun 900 0 100 s24))) (fun t => t.etOff) = some 0xFFFFFFFFFFFFE606#64 := by decide

/-- V-T9, V-T10: an assigned duration in microseconds, after and before BEGIN. -/
theorem test_write_et_us :
    after (exec (.wrEtUs 0xFFFFFFFF) (cnt 1000 (begun 1000 0 0 s24))) (fun t => t.etOff) = some 0xFFFFFFFF00000001#64 ∧
      after (exec (.wrEtUs 1234) s24) (fun t => t.etOff) = some 0xFFFFFFFFFFFFFB2E#64 := by decide

/-! ## Buttons (section 2.3), one tick each -/

/-- V-B1, ticks 5 and 6: 50 ms of an unchanged level make the press, 40 ms do not. -/
theorem test_press_after_debounce :
    let b := { loud Button.reset with lastRaw := true, lastChange := 10 }
    (buttonTick .b0 true { b with t := 40 }).2 = [] ∧ (buttonTick .b0 true { b with t := 50 }).2 = [0x000000#24] := by
  decide

/-- V-B1, tick 16: the release records the hold duration. -/
theorem test_release :
    let r := buttonTick .b0 false { loud (button .down true 150) with lastRaw := false, lastChange := 110, entry := 60 }
    r.1.hold = 100 ∧ r.1.state = .up ∧ r.2 = [0x010000#24] := by decide

/-- V-B1, tick 57: the click window ends at 400 ms, with CLICK. -/
theorem test_click :
    let r := buttonTick .b0 false { loud (button .count false 560) with nclicks := 1, entry := 170 }
    r.1.state = .init ∧ r.1.nclicks = 0 ∧ r.2 = [0x020001#24] := by decide

/-- V-B2, ticks 37 and 38: the second release marks the double click, which ends at once with MULTICLICK disabled. -/
theorem test_double_click :
    (buttonTick .b0 false { button .up false 360 with nclicks := 1 }).1.dblPending = true ∧
      (buttonTick .b0 false
        { button .count false 370 with cfg := { Button.reset.cfg with evtEn := 0x1EF }, nclicks := 2, entry := 370 }).2
        = [0x030002#24] := by decide

/-- V-B5, ticks 86, 87: a press is long only beyond 800 ms. -/
theorem test_long_press :
    (buttonTick .b0 true { loud (button .down true 850) with entry := 60 }).2 = [] ∧
      (buttonTick .b0 true { loud (button .down true 860) with entry := 60 }).2 = [0x050000#24] := by decide

/-- V-B6, tick 97: the during-long-press event; V-B5, tick 99: the end of the long press. -/
theorem test_during_and_stop :
    (buttonTick .b0 true
      { loud (button .press true 960) with
        cfg := { Button.reset.cfg with evtEn := 0x1FF, duringMs := 100 }, lastDuring := 870 }).2 = [0x070000#24] ∧
      (buttonTick .b0 false (loud (button .pressEnd false 980))).2 = [0x060000#24] := by decide

/-- V-B7, variant: IDLE and PRESS on one tick, in that order. -/
theorem test_idle_then_press :
    (buttonTick .b1 true { loud Button.reset with
      cfg := { Button.reset.cfg with evtEn := 0x1FF, idleMs := 60 }, lastRaw := true, lastChange := 10, t := 50 }).2
      = [0x180000#24, 0x100000#24] := by decide

/-- V-B9, tick 1: a negative interval adopts an active level at once; the inactive one is still debounced (tick 6). -/
theorem test_negative_debounce :
    let neg (b : Button) : Button := { b with cfg := { b.cfg with debounce := 0xFFCE } }
    (buttonTick .b0 true (neg Button.reset)).1.deb = true ∧
      (buttonTick .b0 false (neg { button .down true 50 with lastRaw := false, lastChange := 20 })).1.deb = true := by
  decide

/-- V-B15: the elapsed time across the wrap of the time base. -/
theorem test_time_wrap :
    (buttonTick .b0 true { loud Button.reset with t := 0, lastRaw := true, lastChange := 0xFFFFFFD8#32 }).2
      = [0x000000#24] := by decide

/-- V-B14: the click count saturates and then ends the sequence. -/
theorem test_click_saturation :
    (buttonTick .b0 false { loud (button .up false 0) with nclicks := 255 }).1.nclicks = 255 ∧
      (buttonTick .b0 false { loud (button .count false 0) with nclicks := 255 }).2 = [0x0400FF#24] := by decide

/-- V-B12: BRESET0 goes to Init and leaves the debounced level alone. -/
theorem test_breset :
    after (exec .bReset0 { State.reset with b0 := button .press true 900 })
      (fun t => (t.b0.state, t.b0.entry, t.b0.deb, t.out.events)) = some (.init, 900, true, []) ∧
    after (exec .bReset1 { State.reset with b1 := button .press true 900 })
      (fun t => (t.b1.state, t.b1.entry, t.b1.deb)) = some (.init, 900, true) := by decide

/-! ## Joystick (sections 2.4 to 2.6) -/

/-- V-A1: normalization with the reset calibration. -/
theorem test_normalize :
    normalize 0 Axis.reset.cfg.calX = -16384 ∧ normalize 1 Axis.reset.cfg.calX = -16376 ∧
      normalize 2047 Axis.reset.cfg.calX = -8 ∧ normalize 2048 Axis.reset.cfg.calX = 0 ∧
      normalize 3071 Axis.reset.cfg.calX = 8187 ∧ normalize 4095 Axis.reset.cfg.calX = 16384 := by decide

/-- V-A3: zero spans and samples outside the range. -/
theorem test_normalize_zero_span :
    normalize 1999 ⟨2000, 2000, 2000⟩ = -16384 ∧ normalize 2000 ⟨2000, 2000, 2000⟩ = 0 ∧
      normalize 2001 ⟨2000, 2000, 2000⟩ = 16384 ∧ normalize 4094 ⟨0, 4095, 4095⟩ = -4 ∧
      normalize 40 ⟨100, 10, 50⟩ = -16384 ∧ normalize 76 ⟨100, 10, 50⟩ = 655 := by decide

/-- V-A4: the filter truncates toward 0, in both directions. -/
theorem test_smooth :
    smooth 4096 16384 4096 = 7168 ∧ smooth 4096 (-16384) (-4096) = -7168 ∧ smooth 4096 3 0 = 0 ∧
      smooth 8192 16384 16383 = 16383 := by decide

/-- V-A5: the radial deadzone. -/
theorem test_deadzone :
    deadzone 1638 1638 0 = (0, 0) ∧ deadzone 1638 1639 0 = (1, 0) ∧ deadzone 1638 9011 0 = (8192, 0) ∧
      deadzone 0 16384 16384 = (11585, 11585) ∧ deadzone 1638 3000 (-4000) = (2241, -2988) ∧
      deadzone 16383 16384 1 = (16384, 1) := by decide +kernel

/-- V-D1: rows off the axes and diagonals. -/
theorem test_angle :
    angleBam 5 2 = 3968 ∧ angleBam 169 70 = 4095 ∧ angleBam 70 29 = 4096 ∧ angleBam 100 (-41) = 61477 ∧
      angleBam 16384 (-1) = 65535 ∧ angleBam (-16384) 1 = 32767 ∧ angleBam 3 4 = 9672 := by decide +kernel

/-- V-D1: octants on either side of the 22.5 degree boundary. -/
theorem test_octant :
    octant 5 2 = .east ∧ octant 12 5 = .northEast ∧ octant 5741 2378 = .east ∧ octant 13860 5741 = .northEast ∧
      octant 100 (-42) = .southEast ∧ octant 2 5 = .north ∧ octant (-5) 2 = .west ∧ octant 0 0 = .east := by decide

/-- V-A6, row 0x18: one JTICK through the whole path. -/
theorem test_jtick_path :
    after (exec .jTick (stick 4095 1024 s24)) (fun t => (t.ax.fy.toInt, t.ax.nx.toInt, t.ax.ny.toInt, t.de.mag.toNat))
      = some (-8192, 14654, -7327, 16383) ∧
    after (exec .jTick (stick 4095 1024 s24)) (fun t => (t.de.ang.toNat, t.out.events))
      = some (60699, [0x210000#24, 0x230007#24, 0x200000#24]) := by decide +kernel

/-- V-J1, tick 7: the magnitude at `EXIT_TH` stops the tilt. -/
theorem test_jtick_stop :
    after (exec .jTick (stick 1536 2048 { s24 with de := { DirEngine.reset with curDir := .east, tiltActive := true } }))
      (fun t => (t.de.tiltActive, t.de.curDir, t.de.prevDir, t.out.events))
      = some (false, .center, .east, [0x200000#24, 0x220000#24, 0x250000#24]) := by decide +kernel

/-- V-J8: CALIBRATE averages the four samples. -/
theorem test_calibrate :
    after (exec .calibrate { s24 with
        ports := { s24.ports with adcX := 2040, adcY := 2050, adcMore := [(2044, 2052), (2041, 2049), (2046, 2051)] }
        ax := { Axis.reset with cfg := { Axis.reset.cfg with calN := 4 } } })
      (fun t => (t.ax.cfg.calX.center.toNat, t.ax.cfg.calY.center.toNat)) = some (2042, 2050) := by decide +kernel

/-- V-J10: NOP changes nothing. -/
theorem test_nop : after (exec .nop (begun 5 0 9 s24)) (fun t => t.clk) = some ⟨true, 5, 0, 9⟩ := by decide

/-! ## Witnesses: for each statement with hypotheses, values that meet them, one for each of its clauses -/

/-- The result of a tick, as the statements about a tick take it. -/
def tick (lvl : Bool) (b : Button) : Button × List EventWord := buttonTick .b0 lvl b

/-- The state whose next moves are the given ones. -/
def facing (ms : List Move) (s : State) : State := { s with moves := ms }

theorem witness_StepRunsTheDecodedInstruction :
    (facing [.op 0x10000000003#41 quietPorts] s24).moves = .op 0x10000000003#41 quietPorts :: [] ∧
      decode 0x10000000003#41 = .ok .jTick := by decide

theorem witness_ResetLeavesTheResetValues : (facing [.rst, .op 0#41 quietPorts] s24).moves = .rst :: [.op 0#41 quietPorts] := by
  decide

/-- Reads at both ends of each unmapped range. -/
theorem witness_UnmappedReads :
    ∀ cw ∈ [0x00200000000#41, 0x003FFFFFFFF#41, 0x00800000000#41, 0x00F00000000#41, 0x04900000000#41, 0x0FF00000000#41],
      cw.toNat / 2 ^ 40 = 0 ∧ Unmapped (addrNat cw) := by
  simp only [List.forall_mem_cons, List.not_mem_nil, false_imp_iff, implies_true, and_true, Unmapped]
  decide

/-- Writes at both ends of each unmapped range. -/
theorem witness_UnmappedWrites :
    ∀ cw ∈ [0x10200000000#41, 0x103FFFFFFFF#41, 0x10800000000#41, 0x10F00000000#41, 0x14900000000#41, 0x1FF00000000#41],
      cw.toNat / 2 ^ 40 = 1 ∧ Unmapped (addrNat cw) := by
  simp only [List.forall_mem_cons, List.not_mem_nil, false_imp_iff, implies_true, and_true, Unmapped]
  decide

/-- Writes at both ends of each range of read-only registers. -/
theorem witness_ReadOnlyWrites :
    ∀ cw ∈ [0x10100000001#41, 0x10400000000#41, 0x10500000000#41, 0x11800000000#41, 0x11F00000000#41, 0x12800000000#41,
        0x12F00000000#41, 0x14000000000#41, 0x14800000000#41],
      cw.toNat / 2 ^ 40 = 1 ∧ ReadOnly (addrNat cw) := by
  simp only [List.forall_mem_cons, List.not_mem_nil, false_imp_iff, implies_true, and_true, ReadOnly]
  refine ⟨?_, ?_, ?_, ?_, ?_, ?_, ?_, ?_, ?_⟩ <;> decide

/-- NOP with junk above its code, the first and the last reserved code. -/
theorem witness_NopAndReservedCodesDoNothing :
    ∀ cw ∈ [0x100ABCDEF00#41, 0x10000000008#41, 0x100000000FF#41],
      cw.toNat / 2 ^ 40 = 1 ∧ addrNat cw = 0 ∧ (cw.toNat % 2 ^ 8 = 0 ∨ 8 ≤ cw.toNat % 2 ^ 8) := by
  simp only [List.forall_mem_cons, List.not_mem_nil, false_imp_iff, implies_true, and_true]
  decide

theorem witness_DecodedWordsAgreeWithTheEncoder :
    decode 0x13100002000#41 = .ok (.wrAlpha 8192#32) ∧ (0x13100002000#41).toNat / 2 ^ 40 = 1 ∧
      addrNat 0x13100002000#41 ≠ 0 := by decide

theorem witness_ElapsedTimerRoundTrip_us :
    let s := facing [.op (encode (.wrEtUs 0xFFFFFFFF)) quietPorts, .op (encode .rdEtUs) quietPorts] (begun 9 0 0 s24)
    s.clk.clkInit = true ∧ quietPorts.cnt = quietPorts.cnt ∧
      s.moves = .op (encode (.wrEtUs 0xFFFFFFFF)) quietPorts :: .op (encode .rdEtUs) quietPorts :: [] := by decide

theorem witness_ElapsedTimerRoundTrip_ms :
    let s := facing [.op (encode (.wrEtMs 7)) quietPorts, .op (encode .rdEtMs) quietPorts] (begun 9 0 0 s24)
    s.clk.clkInit = true ∧ s.moves = .op (encode (.wrEtMs 7)) quietPorts :: .op (encode .rdEtMs) quietPorts :: [] := by decide

theorem witness_NoCountIsLostToRounding :
    (begun 0x89 119 0 s120).clk.clkInit = true ∧ (begun 0x89 119 0 s120).clk.frac < s120.par.cntPerUs := by decide

/-- A read that does not sample the count, one that does, and BEGIN before and after the clock has begun; the reads at both
ends of the sampling addresses and next to them. -/
theorem witness_OnlySamplingOperationsMoveTheClock :
    (∃ t, exec .rdAlpha (begun 1 0 0 s24) = .next t) ∧ samplesCnt .rdAlpha = false ∧
      (∃ t, exec .rdNowUs (begun 1 0 0 s24) = .next t) ∧ samplesCnt .rdNowUs = true ∧ Instr.rdNowUs ≠ .beginClock ∧
      (begun 1 0 0 s24).clk.clkInit = true ∧ s24.clk.clkInit = false ∧ (∃ t, exec .beginClock s24 = .next t) ∧
      (∃ t, exec .beginClock (begun 1 0 0 s24) = .next t) ∧ addrNat (encode .rdNowUs) = 0x04 ∧
      addrNat (encode .rdEtMs) = 0x07 ∧ addrNat (encode .rdStatus) < 0x04 ∧ 0x07 < addrNat (encode .rdB0Debounce) :=
  ⟨⟨_, rfl⟩, rfl, ⟨_, rfl⟩, rfl, by decide, rfl, rfl, ⟨_, rfl⟩, ⟨_, rfl⟩, by decide, by decide, by decide, by decide⟩

theorem witness_TickTimeBaseLatchesAndDebounce :
    buttonTick .b0 true Button.reset = ((tick true Button.reset).1, (tick true Button.reset).2) := rfl

/-- The level changes after exactly the interval, and at once in negative mode. -/
theorem witness_DebouncedLevelNeedsAStableInterval :
    (let b := { Button.reset with t := 50, lastRaw := true, lastChange := 10 }
     (tick true b).1.deb ≠ b.deb ∧ b.cfg.debounce.toInt.natAbs = ((tick true b).1.t - b.lastChange).toNat) ∧
    (let b := { Button.reset with cfg := { Button.reset.cfg with debounce := 0xFFFF } }
     (tick true b).1.deb ≠ b.deb ∧ b.lastRaw = false) := by decide

/-- The least number of ticks, and an interval met exactly. -/
theorem witness_StableLevelIsAdopted :
    2 ≤ 2 ∧ { Button.reset with cfg := { Button.reset.cfg with debounce := 10 } }.cfg.debounce.toInt.natAbs
      ≤ (2 - 1) * Button.reset.cfg.tickMs.toNat := by decide

/-- Init: idle due at exactly `IDLE_MS` without a press; a press without idle. -/
theorem witness_TickInInit :
    (button .init false 990).state = .init ∧
      ((tick false (button .init false 990)).1.t - (button .init false 990).entry).toNat
        = (button .init false 990).cfg.idleMs.toNat ∧
      (tick false (button .init false 990)).1.deb = false ∧
      (button .init true 980).state = .init ∧ (tick true (button .init true 980)).1.deb = true := by decide

/-- Down: released; held one millisecond beyond `PRESS_MS`; held for exactly `PRESS_MS`. -/
theorem witness_TickInDown :
    (tick false { button .down true 150 with lastRaw := false }).1.deb = false ∧
      (let b := { button .down true 801 with entry := 10 }
       b.state = .down ∧ (tick true b).1.deb = true ∧ ((tick true b).1.t - b.entry).toNat = b.cfg.pressMs.toNat + 1) ∧
      (let b := { button .down true 800 with entry := 10 }
       (tick true b).1.deb = true ∧ ((tick true b).1.t - b.entry).toNat = b.cfg.pressMs.toNat) := by decide

/-- Outside Down: the end of the click sequence, which clears the hold duration, and a tick that keeps it; operations that are
neither ticks nor resets of the button. -/
theorem witness_TickInDown_hold :
    (let b : Button := { button .count false 390 with hold := 7 }
     b.state ≠ .down ∧ b.state ≠ .init ∧ (tick false b).1.state = .init) ∧
      (let b : Button := { button .up false 0 with hold := 7 }
       b.state ≠ .down ∧ (tick false b).1.state = .count) ∧
      (∃ t, exec .rdB0HoldMs s24 = .next t) ∧ Instr.rdB0HoldMs ≠ .bTick ∧ Instr.rdB0HoldMs ≠ .bReset0 ∧
      Instr.rdB0HoldMs ≠ .jTick ∧ Instr.rdB0HoldMs ≠ .bReset1 :=
  ⟨by decide, by decide, ⟨_, rfl⟩, by decide, by decide, by decide, by decide⟩

theorem witness_TickInUp : (button .up false 0).state = .up := by decide

/-- Count: active again; the window at its end; the maximal count before it; neither. -/
theorem witness_TickInCount :
    (button .count false 0).state = .count ∧
      (tick true { button .count false 100 with lastRaw := true }).1.deb = true ∧
      (let b := { button .count false 390 with nclicks := 1 }
       (tick false b).1.deb = false ∧ ((tick false b).1.t - b.entry).toNat = b.cfg.clickMs.toNat) ∧
      (let b := { button .count false 0 with nclicks := 2 }
       ((tick false b).1.t - b.entry).toNat < b.cfg.clickMs.toNat ∧ b.nclicks.toNat = 2) ∧
      (let b := { button .count false 389 with nclicks := 1 }
       ((tick false b).1.t - b.entry).toNat + 1 = b.cfg.clickMs.toNat ∧ b.nclicks.toNat ≠ 2) := by decide

/-- Press: released; the during-long-press interval met exactly; one millisecond short of it. -/
theorem witness_TickInPress :
    let b : Button := { button .press true 110 with cfg := { Button.reset.cfg with duringMs := 100 } }
    b.state = .press ∧ (tick false { b with lastRaw := false }).1.deb = false ∧
      ((tick true { b with lastDuring := 20 }).1.t - 20).toNat = b.cfg.duringMs.toNat ∧
      ((tick true { b with lastDuring := 21 }).1.t - 21).toNat + 1 = b.cfg.duringMs.toNat ∧
      (tick true b).1.deb = true := by decide

theorem witness_TickInPressEnd : (button .pressEnd true 0).state = .pressEnd := by decide

/-- A tick that emits two records in Init, and one outside Init. -/
theorem witness_ButtonStatusBitsRecordTheEvents :
    (tick true (loud (button .init true 990))).2.length = 2 ∧ (button .up false 0).state ≠ .init ∧
      (tick true (loud (button .pressEnd true 0))).2.length = 1 := by decide

theorem witness_ButtonStateIgnoresEventEnables :
    (0x1EF#9).getLsbD 4 = Button.reset.cfg.evtEn.getLsbD 4 ∧ (0x1FF#9).getLsbD 4 = (loud Button.reset).cfg.evtEn.getLsbD 4 := by
  decide

theorem witness_JTickAxisPath : State.reset.ax.Inv :=
  ⟨by decide, by decide, by unfold Coord.InRange; decide, by unfold Coord.InRange; decide, by unfold Coord.InRange; decide,
    by unfold Coord.InRange; decide⟩

/-- Each clause at its boundary: the centre, both ends; an upper and a lower span of zero, one sample beyond it. -/
theorem witness_NormalizationIsBoundedAndMonotone :
    (let c : Calib := ⟨100, 150, 200⟩
     (150#12).toNat = calCenter c ∧ calCenter c < calMax c ∧ calMax c ≤ (200#12).toNat ∧ calMin c < calCenter c ∧
       (100#12).toNat ≤ calMin c ∧ (0#12).toNat ≤ (4095#12).toNat) ∧
      (calCenter ⟨100, 200, 200⟩ = calMax ⟨100, 200, 200⟩ ∧ calCenter ⟨100, 200, 200⟩ < (201#12).toNat) ∧
      (calMin ⟨100, 100, 200⟩ = calCenter ⟨100, 100, 200⟩ ∧ (99#12).toNat < calCenter ⟨100, 100, 200⟩) := by decide

/-- `ALPHA` at its ends, samples at theirs, and a filter at rest. -/
theorem witness_SmoothingFilterProperties :
    (16384 : Nat) ≤ 16384 ∧ |(-16384 : Int)| ≤ 16384 ∧ |(16384 : Int)| ≤ 16384 ∧ smooth 8192 16384 16383 = 16383 := by decide

/-- The largest radius, with a vector on it and one just outside (V-A5), the second with a zero coordinate. -/
theorem witness_DeadzoneOutputIsBounded :
    (16383 : Nat) ≤ 16383 ∧
      (let r : Nat := 16383
       (r : Int) * r ≤ 16383 * 16383 + 180 * 180 ∧ (16383 * 16383 + 180 * 180 : Int) < ((r : Int) + 1) * (r + 1) ∧
         r ≤ 16383) ∧
      (let r : Nat := 16384
       (r : Int) * r ≤ 16384 * 16384 + 0 * 0 ∧ (16384 * 16384 + 0 * 0 : Int) < ((r : Int) + 1) * (r + 1) ∧
         16383 < r) := by decide

theorem witness_OctantGeometry : (0 : Int) < 1 ∧ ((1 : Int) ≠ 0 ∨ (0 : Int) ≠ 0) ∧ (0 : Int) ≤ 0 := by decide

theorem witness_AngleIsTheFlooredArctangent : ((0 : Int) ≠ 0 ∨ (-1 : Int) ≠ 0) ∧ (0 : Int) < 1 := by decide

/-- Not tilted at exactly `ENTER_TH` and below it; tilted at exactly the exit threshold and above it. -/
theorem witness_TiltHysteresis :
    State.reset.de.tiltActive = false ∧ { DirEngine.reset with tiltActive := true }.tiltActive = true ∧
      after (exec .jTick (stick 3072 2048 { s24 with de := { DirEngine.reset with
        cfg := { DirEngine.reset.cfg with enterTh := 8196 } } })) (fun t => t.de.mag.toNat) = some 8196 ∧
      after (exec .jTick (stick 1536 2048 { s24 with de := { DirEngine.reset with tiltActive := true } }))
        (fun t => t.de.mag.toNat) = some DirEngine.reset.cfg.exitTh.toNat := by decide +kernel

theorem witness_JoystickStateIgnoresEventEnables :
    (∃ t, exec .jTick s24 = .next t) ∧
      ∃ t₂, exec .jTick { s24 with de := { s24.de with cfg := { s24.de.cfg with jevtEn := 0x3F }, jevtStatus := 1 } }
        = .next t₂ := ⟨⟨_, rfl⟩, ⟨_, rfl⟩⟩

/-- The least `CAL_N`; and with two samples, a listed pair the second acquisition takes. -/
theorem witness_CalibrateAveragesTheSamples :
    1 ≤ { Axis.reset with cfg := { Axis.reset.cfg with calN := 1 } }.cfg.calN.toNat ∧
      0 < ([(5, 6)] : List (Raw × Raw)).length ∧ 0 + 1 < 2 := by decide

/-- Operations inside and outside each unit's addresses, at the ends of the ranges. -/
theorem witness_OperationsTouchOnlyTheirUnits :
    (∃ t, exec .rdAlpha s24 = .next t) ∧ addressesB0 .rdB1State = false ∧ addressesB1 .bTick = false ∧
      writesIn .bTick 0x10 0x16 = false ∧ writesIn .jTick 0x20 0x26 = false ∧
      (writesIn (.wrMoveEps 1) 0x30 0x32 = false ∧ writesIn (.wrMoveEps 1) 0x37 0x3D = false) ∧
      (writesIn (.wrJevtEn 1) 0x30 0x32 = false ∧ writesIn (.wrJevtEn 1) 0x37 0x3D = false) ∧
      Instr.wrMoveEps 1 ≠ .calibrate ∧ Instr.wrMoveEps 1 ≠ .jTick ∧
      (writesIn (.wrCalN 1) 0x33 0x36 = false ∧ writesIn (.wrCalN 1) 0x3E 0x3F = false) ∧
      (writesIn (.wrJevtStatus 1) 0x33 0x36 = false ∧ writesIn (.wrJevtStatus 1) 0x3E 0x3E = false) ∧
      Instr.wrCalN 1 ≠ .jTick ∧ writesIn (.wrB0TickMs 1) 0x06 0x07 = false ∧ Instr.wrB0TickMs 1 ≠ .etReset ∧
      addressesB0 (.wrB0TickMs 1) = true ∧ addressesB1 (.wrB1Debounce 1) = true ∧
      writesIn (.wrJevtStatus 1) 0x3E 0x3F = true := ⟨⟨_, rfl⟩, by decide⟩

theorem witness_OnlyReadsReturnAndOnlyTicksEmit :
    (∃ t, exec (.wrAlpha 1) s24 = .next t) ∧ Instr.wrAlpha 1 ≠ .bTick ∧ Instr.wrAlpha 1 ≠ .jTick ∧
      (∃ t, exec .rdAlpha s24 = .next t) := ⟨⟨_, rfl⟩, by decide, by decide, ⟨_, rfl⟩⟩

theorem witness_OperationsIgnoreTheOtherButton :
    (∃ t, exec .jTick s24 = .next t) ∧ addressesB0 .jTick = false ∧ (∃ t, exec .bTick s24 = .next t) ∧
      addressesB1 .bTick = false := ⟨⟨_, rfl⟩, by decide, ⟨_, rfl⟩, by decide⟩

/-- A state other than reset that has the invariant and takes a step. -/
theorem witness_StepKeepsTheInvariant :
    (facing [.op (encode .jTick) quietPorts] (begun 5 0 9 s24)).Inv ∧
      ∃ t, step (facing [.op (encode .jTick) quietPorts] (begun 5 0 9 s24)) = .next t := by
  refine ⟨⟨⟨by decide, by decide, by decide⟩, ⟨by decide, by decide⟩, ⟨by decide, by decide⟩, witness_JTickAxisPath,
    ⟨by decide, by decide, by decide, by unfold Coord.InRange; decide, by unfold Coord.InRange; decide, by decide⟩⟩, ?_⟩
  exact ⟨_, (takeMove_op rfl).trans (by rw [runWord, show decode (encode .jTick) = .ok .jTick by decide]; rfl)⟩

end Sys2Proof.Tests
end

section
/-! SUPPORT. What the host port makes of a word that decodes (R6, R90), and the address of an encoded operation. -/

namespace Sys2Proof.Machine

theorem runWord_of_decode {cw : CmdWord} {i : Instr} (h : decode cw = .ok i) (s : State) : runWord cw s = exec i s := by
  simp [runWord, h]

end Sys2Proof.Machine

namespace Sys2Proof.Claims

theorem addrNat_eq_cwAddr (cw : CmdWord) : addrNat cw = (cwAddr cw).toNat := by
  simp [addrNat, cwAddr, Nat.shiftRight_eq_div_pow]

@[simp] theorem addrNat_encodeRead (a : Addr) : addrNat (encodeRead a) = a.toNat := by
  rw [addrNat_eq_cwAddr, cwAddr_encodeRead]

@[simp] theorem addrNat_encodeWrite (a : Addr) (v : Word) : addrNat (encodeWrite a v) = a.toNat := by
  rw [addrNat_eq_cwAddr, cwAddr_encodeWrite]

@[simp] theorem addrNat_encodeCommand (c : BitVec 8) : addrNat (encodeCommand c) = 0 := by
  rw [addrNat_eq_cwAddr, cwAddr_encodeCommand]; rfl

theorem addressesB0_of_addr {i : Instr} (h : 0x10 ≤ addrNat (encode i) ∧ addrNat (encode i) ≤ 0x1F) :
    addressesB0 i = true := by
  simp [addressesB0, h]

theorem addressesB1_of_addr {i : Instr} (h : 0x20 ≤ addrNat (encode i) ∧ addrNat (encode i) ≤ 0x2F) :
    addressesB1 i = true := by
  simp [addressesB1, h]

end Sys2Proof.Claims
end

section
/-! Certificates for 00_scope.md: a step runs the decoded operation (R6, R78, R90), and the two buttons share no state (R3,
R304). The cases of the two lemmas on `exec` name the operations that address the button; each of the others reads and
writes other elements only, so it answers alike, whatever that button holds. -/

namespace Sys2Proof.Machine

open Sys2Proof.Claims

theorem exec_with_b0 {i : Instr} {s t : State} (hi : addressesB0 i = false) (h : exec i s = .next t) (b : Button) :
    exec i { s with b0 := b } = .next { t with b0 := b } := by
  cases i with
  | bTick | bReset0 => simp [addressesB0] at hi
  | rdB0Debounce | rdB0ClickMs | rdB0PressMs | rdB0DuringMs | rdB0IdleMs | rdB0TickMs | rdB0EvtEn | rdB0EvtStatus
  | rdB0State | rdB0Nclicks | rdB0HoldMs | rdB0Waspressed | rdB0Wasreleased | rdB0Dblclicked | rdB0Time | rdB0Maxclicks
  | wrB0Debounce | wrB0ClickMs | wrB0PressMs | wrB0DuringMs | wrB0IdleMs | wrB0TickMs | wrB0EvtEn | wrB0EvtStatus =>
    rw [addressesB0_of_addr (by simp [encode])] at hi
    contradiction
  | _ =>
    cases h
    rfl

theorem exec_with_b1 {i : Instr} {s t : State} (hi : addressesB1 i = false) (h : exec i s = .next t) (b : Button) :
    exec i { s with b1 := b } = .next { t with b1 := b } := by
  cases i with
  | jTick | bReset1 => simp [addressesB1] at hi
  | rdB1Debounce | rdB1ClickMs | rdB1PressMs | rdB1DuringMs | rdB1IdleMs | rdB1TickMs | rdB1EvtEn | rdB1EvtStatus
  | rdB1State | rdB1Nclicks | rdB1HoldMs | rdB1Waspressed | rdB1Wasreleased | rdB1Dblclicked | rdB1Time | rdB1Maxclicks
  | wrB1Debounce | wrB1ClickMs | wrB1PressMs | wrB1DuringMs | wrB1IdleMs | wrB1TickMs | wrB1EvtEn | wrB1EvtStatus =>
    rw [addressesB1_of_addr (by simp [encode])] at hi
    contradiction
  | _ =>
    cases h
    rfl

/-- Settles O57: an operation that does not address a button answers alike, whatever that button holds. -/
theorem operationsIgnoreTheOtherButton : Obligations.OperationsIgnoreTheOtherButton := by
  unfold Obligations.OperationsIgnoreTheOtherButton
  intro i s t b h
  exact ⟨fun hi => exec_with_b0 hi h b, fun hi => exec_with_b1 hi h b⟩

/-- Settles O1: the next move is taken off the list, its word runs at the host port, and it decodes to the operation. -/
theorem stepRunsTheDecodedInstruction : Obligations.StepRunsTheDecodedInstruction := by
  unfold Obligations.StepRunsTheDecodedInstruction
  intro s cw p rest i hm hd
  calc step s = runWord cw { s with ports := p, moves := rest } := takeMove_op hm
    _ = exec i { s with ports := p, moves := rest } := runWord_of_decode hd _

end Sys2Proof.Machine
end

section
/-! The arithmetic of the axis path (R10, R173 to R176): lengths, and the ranges of the filter and of the deadzone. -/

namespace Sys2Proof.Machine

/-- The quotient of a truncating division, squared, against its dividend. -/
theorem tdiv_sq_mul_sq_le {a b : Int} (hb : 0 < b) : tdiv a b ^ 2 * b ^ 2 ≤ a ^ 2 := by
  have hn : ∀ x : Int, 0 ≤ x → (x / b) ^ 2 * b ^ 2 ≤ x ^ 2 := fun x hx => by
    rw [← mul_pow]
    exact pow_le_pow_left₀ (mul_nonneg (Int.ediv_nonneg hx hb.le) hb.le) (Int.ediv_mul_le x hb.ne') 2
  unfold tdiv
  split
  · exact hn a ‹_›
  · simpa using hn (-a) (by omega)

/-- The defining property of the length of a vector (R10, R190). -/
theorem vectorLength_spec (x y : Int) :
    (vectorLength x y : Int) ^ 2 ≤ x ^ 2 + y ^ 2 ∧ x ^ 2 + y ^ 2 < ((vectorLength x y : Int) + 1) ^ 2 := by
  have hnn : 0 ≤ x * x + y * y := add_nonneg (mul_self_nonneg x) (mul_self_nonneg y)
  obtain ⟨hlo, hhi⟩ := isqrt_spec (x * x + y * y).toNat
  zify [Int.toNat_of_nonneg hnn] at hlo hhi
  exact ⟨by simpa only [vectorLength, sq] using hlo, by simpa only [vectorLength, sq] using hhi⟩

/-- No coordinate is longer than its vector. -/
theorem abs_le_vectorLength (x y : Int) : |x| ≤ vectorLength x y ∧ |y| ≤ vectorLength x y := by
  obtain ⟨-, hhi⟩ := vectorLength_spec x y
  have bound : ∀ z : Int, z ^ 2 ≤ x ^ 2 + y ^ 2 → |z| ≤ vectorLength x y := fun z hz =>
    Int.le_of_lt_add_one (abs_lt_of_sq_lt_sq (hz.trans_lt hhi) (by omega))
  exact ⟨bound x (le_add_of_nonneg_right (sq_nonneg y)), bound y (le_add_of_nonneg_left (sq_nonneg x))⟩

theorem vectorLength_le_of_sq_lt {x y m : Int} (hm : 0 ≤ m) (h : x ^ 2 + y ^ 2 < (m + 1) ^ 2) :
    (vectorLength x y : Int) ≤ m := by
  obtain ⟨hlo, -⟩ := vectorLength_spec x y
  exact Int.le_of_lt_add_one (lt_of_pow_lt_pow_left₀ 2 (by omega) (hlo.trans_lt h))

theorem abs_normalize_le (raw : Raw) (c : Calib) : |normalize raw c| ≤ 16384 :=
  abs_le.mpr (clamp_range (by decide))

theorem abs_invert (inv : Bool) (v : Int) : |invert inv v| = |v| := by
  cases inv <;> simp [invert]

/-- The filter step is a weighted mean, so it stays in the range of the sample and the state (R175). -/
theorem abs_smooth_le {alpha : Nat} {s f : Int} (ha : alpha ≤ 16384) (hs : |s| ≤ 16384) (hf : |f| ≤ 16384) :
    |smooth alpha s f| ≤ 16384 := by
  have ha' : (alpha : Int) ≤ 16384 := by exact_mod_cast ha
  refine abs_tdiv_le (by decide) ?_
  calc |(alpha : Int) * s + (16384 - (alpha : Int)) * f|
      ≤ |(alpha : Int) * s| + |(16384 - (alpha : Int)) * f| := abs_add_le _ _
    _ = alpha * |s| + (16384 - alpha) * |f| := by
        rw [abs_mul, abs_mul, Nat.abs_cast, abs_of_nonneg (sub_nonneg.mpr ha')]
    _ ≤ alpha * 16384 + (16384 - alpha) * 16384 :=
        add_le_add (mul_le_mul_of_nonneg_left hs (Int.natCast_nonneg _))
          (mul_le_mul_of_nonneg_left hf (sub_nonneg.mpr ha'))
    _ = 16384 * 16384 := by ring

/-- Outside the deadzone the rescaled magnitude is at most `ONE` and at most the length it rescales (R176). -/
theorem rescaled_range {dz r : Int} (h0 : 0 ≤ dz) (h1 : dz < 16384) (hr : dz < r) :
    0 ≤ rescaled dz r ∧ rescaled dz r ≤ 16384 ∧ rescaled dz r ≤ r := by
  have hnum : 0 ≤ (r - dz) * 16384 := by omega
  have hq : rescaled dz r = min ((r - dz) * 16384 / (16384 - dz)) 16384 :=
    congrArg (min · 16384) (tdiv_of_nonneg hnum)
  have hq0 : 0 ≤ (r - dz) * 16384 / (16384 - dz) := Int.ediv_nonneg hnum (by omega)
  refine ⟨by omega, by omega, ?_⟩
  by_cases hone : r ≤ 16384
  · have hqr : (r - dz) * 16384 / (16384 - dz) ≤ r :=
      Int.ediv_le_of_le_mul (by omega) (by nlinarith only [mul_le_mul_of_nonneg_right hone h0])
    omega
  · omega

/-- The deadzone gives a vector of length at most `ONE`: truncation and the floor of the length `r` together lengthen it by
less than 1, since the new magnitude is at most `r` (R176, R177). -/
theorem vectorLength_deadzone_le {dz : Nat} (hdz : dz < 16384) (fx fy : Int) :
    vectorLength (deadzone dz fx fy).1 (deadzone dz fx fy).2 ≤ 16384 := by
  by_cases hr : vectorLength fx fy ≤ dz
  · have hz : deadzone dz fx fy = (0, 0) := if_pos hr
    rw [hz]
    decide
  · have hd : deadzone dz fx fy =
        (tdiv (fx * rescaled dz (vectorLength fx fy)) (vectorLength fx fy),
          tdiv (fy * rescaled dz (vectorLength fx fy)) (vectorLength fx fy)) := if_neg hr
    rw [hd]
    obtain ⟨-, hlen⟩ := vectorLength_spec fx fy
    obtain ⟨hm0, hm1, hmr⟩ := rescaled_range (dz := dz) (r := vectorLength fx fy) (by omega) (by omega) (by omega)
    have hr0 : (0 : Int) < vectorLength fx fy := by omega
    generalize rescaled dz (vectorLength fx fy) = m at *
    generalize (vectorLength fx fy : Int) = r at *
    suffices h : tdiv (fx * m) r ^ 2 + tdiv (fy * m) r ^ 2 < (m + 1) ^ 2 by
      exact_mod_cast (vectorLength_le_of_sq_lt hm0 h).trans hm1
    have hx := tdiv_sq_mul_sq_le (a := fx * m) hr0
    have hy := tdiv_sq_mul_sq_le (a := fy * m) hr0
    refine lt_of_mul_lt_mul_right ?_ (sq_nonneg r)
    calc (tdiv (fx * m) r ^ 2 + tdiv (fy * m) r ^ 2) * r ^ 2
        ≤ m ^ 2 * (fx ^ 2 + fy ^ 2) := by linarith only [hx, hy, mul_pow fx m 2, mul_pow fy m 2]
      _ ≤ m ^ 2 * (r ^ 2 + 2 * r) := mul_le_mul_of_nonneg_left (by linarith only [hlen]) (sq_nonneg m)
      _ = m ^ 2 * r ^ 2 + 2 * (m * r) * m := by ring
      _ ≤ m ^ 2 * r ^ 2 + 2 * (m * r) * r := by gcongr
      _ < (m + 1) ^ 2 * r ^ 2 := by linarith only [sq_pos_of_pos hr0]

end Sys2Proof.Machine
end

section
/-! The invariant, unit by unit: what each operation on a unit keeps of it (R22, R29 to R32, R138, R141, R240, R272). -/

namespace Sys2Proof.Machine

/-! The clock (R22, R110, R112). -/

theorem Clock.inv_reset (p : Params) : State.reset.clk.Inv p :=
  ⟨Nat.two_pow_pos _, cntPerUs_pos p, fun _ => ⟨rfl, rfl, rfl⟩⟩

theorem clockUpdate_inv {p : Params} {cnt : Nat} {c : Clock} (h : c.Inv p) (hcnt : cnt < 2 ^ p.cntBits) :
    (clockUpdate p cnt c).Inv p := by
  cases hb : c.clkInit with
  | false => rwa [clockUpdate_of_not_begun p cnt c hb]
  | true =>
    rw [clockUpdate_of_begun p cnt c hb]
    exact ⟨hcnt, Nat.mod_lt _ (cntPerUs_pos p), fun hn => absurd hn (by simp [hb])⟩

theorem beginAt_inv {p : Params} {cnt : Nat} {c : Clock} (h : c.Inv p) (hcnt : cnt < 2 ^ p.cntBits) :
    (beginAt cnt c).Inv p := by
  unfold beginAt
  split
  · exact h
  · exact ⟨hcnt, cntPerUs_pos p, fun hn => absurd hn (by simp)⟩

/-! The button (R134 to R141). -/

/-- The invariant speaks of the state, the click count and the hold duration only. -/
theorem Button.Inv.congr {b b' : Button} (h : b.Inv) (hs : b'.state = b.state) (hn : b'.nclicks = b.nclicks)
    (hh : b'.hold = b.hold) : b'.Inv :=
  ⟨fun hi => by rw [hn, hh]; exact h.init_clear (hs ▸ hi), fun hc => by rw [hn]; exact h.count_pos (hs ▸ hc)⟩

/-- In Down, Up, Press and PressEnd the invariant asks nothing. -/
theorem Button.inv_of_state_ne {b : Button} (hi : b.state ≠ .init) (hc : b.state ≠ .count) : b.Inv :=
  ⟨fun h => absurd h hi, fun h => absurd h hc⟩

theorem fsmReset_inv (b : Button) : (fsmReset b).Inv := ⟨fun _ => ⟨rfl, rfl⟩, fun h => absurd h (by simp)⟩

theorem Button.inv_reset : Button.reset.Inv := ⟨fun _ => ⟨rfl, rfl⟩, fun h => absurd h (by decide)⟩

theorem emitButton_inv {u : ButtonId} {k : ButtonEvent} {arg : BitVec 16} {r : Button × List EventWord}
    (h : r.1.Inv) : (emitButton u k arg r).1.Inv := by
  rw [emitButton_eq]
  exact h.congr rfl rfl rfl

theorem nextClicks_pos (b : Button) : 1 ≤ (nextClicks b).toNat := by
  simp only [nextClicks, Config.clickMax, BitVec.toNat_ofNat]
  omega

theorem stepInit_inv {u : ButtonId} {e : Nat} {r : Button × List EventWord} (h : r.1.Inv) :
    (stepInit u e r).1.Inv := by
  have hidle : (initIdle u e r).1.Inv := by
    unfold initIdle
    split
    · exact emitButton_inv (h.congr rfl rfl rfl)
    · exact h
  unfold stepInit initPress
  split
  · exact emitButton_inv (Button.inv_of_state_ne (by simp) (by simp))
  · exact hidle

theorem stepDown_inv {u : ButtonId} {e : Nat} {r : Button × List EventWord} (h : r.1.Inv) :
    (stepDown u e r).1.Inv := by
  unfold stepDown
  split
  · exact emitButton_inv (Button.inv_of_state_ne (by simp) (by simp))
  · split
    · exact emitButton_inv (Button.inv_of_state_ne (by simp) (by simp))
    · exact h

theorem stepUp_inv (r : Button × List EventWord) : (stepUp r).1.Inv :=
  ⟨fun h => absurd h (by simp [stepUp]), fun _ => nextClicks_pos r.1⟩

theorem stepCount_inv {u : ButtonId} {e : Nat} {r : Button × List EventWord} (h : r.1.Inv) :
    (stepCount u e r).1.Inv := by
  unfold stepCount
  split
  · exact Button.inv_of_state_ne (by simp) (by simp)
  · split
    · exact fsmReset_inv _
    · exact h

theorem stepPress_inv {u : ButtonId} {r : Button × List EventWord} (h : r.1.Inv) : (stepPress u r).1.Inv := by
  unfold stepPress
  split
  · exact Button.inv_of_state_ne (by simp) (by simp)
  · split
    · exact (emitButton_inv h).congr rfl rfl rfl
    · exact h

theorem evaluate_inv {u : ButtonId} {b : Button} (h : b.Inv) : (evaluate u b).1.Inv := by
  unfold evaluate
  split
  · exact stepInit_inv h
  · exact stepDown_inv h
  · exact stepUp_inv _
  · exact stepCount_inv h
  · exact stepPress_inv h
  · exact fsmReset_inv _

theorem buttonTick_inv {u : ButtonId} {lvl : Bool} {b : Button} (h : b.Inv) : (buttonTick u lvl b).1.Inv := by
  rw [buttonTick_eq]
  exact evaluate_inv (h.congr (preTick_state lvl b) (preTick_nclicks lvl b) (preTick_hold lvl b))

/-! The axis processor (R29, R30, R178). -/

theorem Coord.inRange_zero : Coord.InRange 0 := ⟨by decide, by decide⟩

theorem Axis.inv_reset : Axis.reset.Inv :=
  ⟨by decide, by decide, Coord.inRange_zero, Coord.inRange_zero, Coord.inRange_zero, Coord.inRange_zero⟩

/-- Of a new configuration the invariant asks only that `ALPHA` and `CAL_N` are legal (R29). -/
theorem Axis.Inv.set_cfg {a : Axis} (h : a.Inv) {c : AxisCfg} (halpha : c.alpha.toNat ≤ 16384)
    (hcalN : 1 ≤ c.calN.toNat) : { a with cfg := c }.Inv :=
  ⟨halpha, hcalN, h.fx_range, h.fy_range, h.nx_range, h.ny_range⟩

/-- A clamped write stores at most the limit (R95). -/
theorem clampWrite_toNat_le (n limit : Nat) (v : Word) : (clampWrite n limit v).toNat ≤ limit := by
  rw [clampWrite, BitVec.toNat_ofNat]
  exact (Nat.mod_le _ _).trans (Nat.min_le_right _ _)

/-- A write of `CAL_N` stores at least 1 (R257). -/
theorem calNWrite_pos (v : Word) : 1 ≤ (calNWrite v).toNat := by
  rw [calNWrite, BitVec.toNat_ofNat]
  omega

theorem Coord.InRange.abs_toInt_le {v : Coord} (h : Coord.InRange v) : |v.toInt| ≤ 16384 := abs_le.mpr h

/-- What the axis step stores is what the deadzone gives for the new filter state, without loss (R176, R178). -/
theorem axisDeadzone_toInt (a : Axis) :
    (axisDeadzone a).nx.toInt = (deadzone a.cfg.deadzone.toNat a.fx.toInt a.fy.toInt).1 ∧
      (axisDeadzone a).ny.toInt = (deadzone a.cfg.deadzone.toNat a.fx.toInt a.fy.toInt).2 := by
  have hlen := vectorLength_deadzone_le a.cfg.deadzone.isLt a.fx.toInt a.fy.toInt
  obtain ⟨hx, hy⟩ := abs_le_vectorLength (deadzone a.cfg.deadzone.toNat a.fx.toInt a.fy.toInt).1
    (deadzone a.cfg.deadzone.toNat a.fx.toInt a.fy.toInt).2
  exact ⟨coord_toInt (by omega), coord_toInt (by omega)⟩

/-- The vector an axis step leaves has a length of at most `ONE` (R177). -/
theorem vectorLength_axisStep_le (p : Raw × Raw) (a : Axis) :
    vectorLength (axisStep p a).nx.toInt (axisStep p a).ny.toInt ≤ 16384 := by
  obtain ⟨hx, hy⟩ := axisDeadzone_toInt (axisFilter p a)
  rw [axisStep, hx, hy]
  exact vectorLength_deadzone_le (BitVec.isLt _) _ _

/-- A coordinate of a vector no longer than `ONE` is in range (R30). -/
theorem inRange_of_vectorLength_le {x y : Coord} (h : vectorLength x.toInt y.toInt ≤ 16384) :
    Coord.InRange x ∧ Coord.InRange y := by
  obtain ⟨hx, hy⟩ := abs_le_vectorLength x.toInt y.toInt
  exact ⟨abs_le.mp (by omega), abs_le.mp (by omega)⟩

theorem axisStep_inv {p : Raw × Raw} {a : Axis} (h : a.Inv) : (axisStep p a).Inv := by
  obtain ⟨hnx, hny⟩ := inRange_of_vectorLength_le (vectorLength_axisStep_le p a)
  have hfilter : ∀ (inv : Bool) (raw : Raw) (c : Calib) (f : Coord), Coord.InRange f →
      Coord.InRange (coord (smooth a.cfg.alpha.toNat (invert inv (normalize raw c)) f.toInt)) :=
    fun inv raw c f hf => (coord_inRange (abs_smooth_le h.alpha_le
      ((abs_invert inv _).trans_le (abs_normalize_le raw c)) hf.abs_toInt_le)).2
  exact ⟨h.alpha_le, h.calN_pos, hfilter _ _ _ _ h.fx_range, hfilter _ _ _ _ h.fy_range, hnx, hny⟩

/-! The direction engine (R31, R32, R201). -/

theorem DirEngine.inv_reset : DirEngine.reset.Inv :=
  ⟨by decide, by decide, by decide, Coord.inRange_zero, Coord.inRange_zero, by decide⟩

/-- Of a new configuration the invariant asks only that the thresholds are legal (R31). -/
theorem DirEngine.Inv.set_cfg {d : DirEngine} (h : d.Inv) {c : DirCfg} (henter : c.enterTh.toNat ≤ 16384)
    (hexit : c.exitTh.toNat ≤ 16384) : { d with cfg := c }.Inv :=
  ⟨henter, hexit, h.mag_le, h.lrx_range, h.lry_range, h.center_iff⟩

/-- An octant is never Center (R191). -/
theorem octant_ne_center (x y : Int) : octant x y ≠ .center := by
  unfold octant
  split_ifs <;> decide

/-- The event rules touch the last reported vector only to set it to the one of this tick (R198). -/
theorem directionEvents_reported (start stop : Bool) (now : Micros) (nx ny : Coord) (d : DirEngine) :
    let d' := (directionEvents start stop now nx ny d).1
    d'.lrx = d.lrx ∧ d'.lry = d.lry ∨ d'.lrx = nx ∧ d'.lry = ny := by
  have hstart (r : DirEngine × List EventWord) :
      (emitTiltStart start now r).1.lrx = r.1.lrx ∧ (emitTiltStart start now r).1.lry = r.1.lry := by
    unfold emitTiltStart; split <;> simp [emitJoy_eq]
  have hchanged (r : DirEngine × List EventWord) :
      (emitDirChanged r).1.lrx = r.1.lrx ∧ (emitDirChanged r).1.lry = r.1.lry := by
    unfold emitDirChanged; split <;> simp [emitJoy_eq]
  have hmove (r : DirEngine × List EventWord) :
      (emitMove nx ny r).1.lrx = r.1.lrx ∧ (emitMove nx ny r).1.lry = r.1.lry ∨
        (emitMove nx ny r).1.lrx = nx ∧ (emitMove nx ny r).1.lry = ny := by
    unfold emitMove; split <;> simp [emitJoy_eq]
  have hrepeat (r : DirEngine × List EventWord) :
      (emitRepeat now r).1.lrx = r.1.lrx ∧ (emitRepeat now r).1.lry = r.1.lry := by
    unfold emitRepeat; split <;> simp [emitJoy_eq]
  have hstop (r : DirEngine × List EventWord) :
      (emitTiltStop stop r).1.lrx = r.1.lrx ∧ (emitTiltStop stop r).1.lry = r.1.lry := by
    unfold emitTiltStop; split <;> simp [emitJoy_eq]
  simpa only [directionEvents, hstop, hrepeat, hchanged, hstart] using
    hmove (emitDirChanged (emitTiltStart start now (d, [])))

theorem directionEvents_inv {start stop : Bool} {now : Micros} {nx ny : Coord} {d : DirEngine} (h : d.Inv)
    (hx : Coord.InRange nx) (hy : Coord.InRange ny) : (directionEvents start stop now nx ny d).1.Inv := by
  obtain ⟨hcfg, hmag, -, hcur, -, htilt⟩ := directionEvents_frame start stop now nx ny d
  have hreported : Coord.InRange (directionEvents start stop now nx ny d).1.lrx ∧
      Coord.InRange (directionEvents start stop now nx ny d).1.lry := by
    rcases directionEvents_reported start stop now nx ny d with ⟨ex, ey⟩ | ⟨ex, ey⟩
    · rw [ex, ey]; exact ⟨h.lrx_range, h.lry_range⟩
    · rw [ex, ey]; exact ⟨hx, hy⟩
  exact ⟨hcfg ▸ h.enter_le, hcfg ▸ h.exit_le, hmag ▸ h.mag_le, hreported.1, hreported.2,
    by rw [hcur, htilt]; exact h.center_iff⟩

/-- The polar form, the tilt decision and the direction of a vector no longer than `ONE` (R190 to R195): whatever the
direction was, it is Center afterwards exactly when the stick is not tilted. -/
theorem decideDirection_inv {x y : Int} {d : DirEngine} (h : d.Inv) (hlen : vectorLength x y ≤ 16384) :
    (decideDirection x y (decideTilt (polar x y d))).Inv where
  enter_le := h.enter_le
  exit_le := h.exit_le
  mag_le := by
    simp only [decideDirection_mag, decideTilt_mag, polar_mag, BitVec.toNat_ofNat]
    exact (Nat.mod_le _ _).trans hlen
  lrx_range := h.lrx_range
  lry_range := h.lry_range
  center_iff := by
    rw [decideDirection_curDir, decideDirection_tiltActive]
    cases (decideTilt (polar x y d)).tiltActive <;> simp [octant_ne_center]

theorem directionStep_inv {now : Micros} {nx ny : Coord} {d : DirEngine} (h : d.Inv)
    (hlen : vectorLength nx.toInt ny.toInt ≤ 16384) : (directionStep now nx ny d).1.Inv := by
  obtain ⟨hx, hy⟩ := inRange_of_vectorLength_le hlen
  exact directionEvents_inv (decideDirection_inv h hlen) hx hy

end Sys2Proof.Machine
end

section
/-! The invariant of the machine through the updates of its units, the operations, the host port and the step. -/

namespace Sys2Proof.Machine

/-! One rule per unit written. -/

theorem State.Inv.set_clk {s : State} (h : s.Inv) {c : Clock} (hc : c.Inv s.par) : { s with clk := c }.Inv :=
  ⟨hc, h.b0, h.b1, h.ax, h.de⟩

theorem State.Inv.set_b0 {s : State} (h : s.Inv) {b : Button} (hb : b.Inv) : { s with b0 := b }.Inv :=
  ⟨h.clk, hb, h.b1, h.ax, h.de⟩

theorem State.Inv.set_b1 {s : State} (h : s.Inv) {b : Button} (hb : b.Inv) : { s with b1 := b }.Inv :=
  ⟨h.clk, h.b0, hb, h.ax, h.de⟩

theorem State.Inv.set_ax {s : State} (h : s.Inv) {a : Axis} (ha : a.Inv) : { s with ax := a }.Inv :=
  ⟨h.clk, h.b0, h.b1, ha, h.de⟩

theorem State.Inv.set_de {s : State} (h : s.Inv) {d : DirEngine} (hd : d.Inv) : { s with de := d }.Inv :=
  ⟨h.clk, h.b0, h.b1, h.ax, hd⟩

/-- The invariant says nothing of the elapsed timer's offset. -/
theorem State.Inv.set_etOff {s : State} (h : s.Inv) (off : Micros) : { s with etOff := off }.Inv :=
  ⟨h.clk, h.b0, h.b1, h.ax, h.de⟩

theorem updateClock_inv {s : State} (h : s.Inv) : (updateClock s).Inv :=
  h.set_clk (clockUpdate_inv h.clk (sampleCnt_lt s))

theorem hardwareReset_inv (s : State) : (hardwareReset s).Inv :=
  ⟨Clock.inv_reset s.par, Button.inv_reset, Button.inv_reset, Axis.inv_reset, DirEngine.inv_reset⟩

/-! How an operation completes (R6, R90): the result is no part of the invariant. -/

theorem returnData_inv {v : Word} {s t : State} (h : returnData v s = .next t) (hs : s.Inv) : t.Inv := by
  rw [returnData_eq_next.mp h]
  exact ⟨hs.clk, hs.b0, hs.b1, hs.ax, hs.de⟩

theorem returnNothing_inv {s t : State} (h : returnNothing s = .next t) (hs : s.Inv) : t.Inv := by
  rw [returnNothing_eq_next.mp h]
  exact ⟨hs.clk, hs.b0, hs.b1, hs.ax, hs.de⟩

theorem returnEvents_inv {ev : List EventWord} {s t : State} (h : returnEvents ev s = .next t) (hs : s.Inv) :
    t.Inv := by
  rw [returnEvents_eq_next.mp h]
  exact ⟨hs.clk, hs.b0, hs.b1, hs.ax, hs.de⟩

theorem writeB0_inv {f : ButtonCfg → ButtonCfg} {s t : State} (h : writeB0 f s = .next t) (hs : s.Inv) : t.Inv :=
  returnNothing_inv h (hs.set_b0 (hs.b0.congr rfl rfl rfl))

theorem writeB1_inv {f : ButtonCfg → ButtonCfg} {s t : State} (h : writeB1 f s = .next t) (hs : s.Inv) : t.Inv :=
  returnNothing_inv h (hs.set_b1 (hs.b1.congr rfl rfl rfl))

theorem writeAxis_inv {f : AxisCfg → AxisCfg} {s t : State} (h : writeAxis f s = .next t) (hs : s.Inv)
    (halpha : (f s.ax.cfg).alpha.toNat ≤ 16384) (hcalN : 1 ≤ (f s.ax.cfg).calN.toNat) : t.Inv :=
  returnNothing_inv h (hs.set_ax (hs.ax.set_cfg halpha hcalN))

theorem writeDir_inv {f : DirCfg → DirCfg} {s t : State} (h : writeDir f s = .next t) (hs : s.Inv)
    (henter : (f s.de.cfg).enterTh.toNat ≤ 16384) (hexit : (f s.de.cfg).exitTh.toNat ≤ 16384) : t.Inv :=
  returnNothing_inv h (hs.set_de (hs.de.set_cfg henter hexit))

theorem execJTick_inv {s t : State} (h : execJTick s = .next t) (hs : s.Inv) : t.Inv := by
  have hde : (joyDirection s).1.Inv := directionStep_inv hs.de (vectorLength_axisStep_le _ s.ax)
  have hax : (joyAxis s).Inv := axisStep_inv hs.ax
  exact returnEvents_inv h ((((updateClock_inv hs).set_ax hax).set_de hde).set_b1 (buttonTick_inv hs.b1))

/-- Every operation keeps the invariant. The cases are grouped by the unit the operation writes; what is left are the
reads that change nothing. -/
theorem exec_inv {i : Instr} {s t : State} (h : exec i s = .next t) (hs : s.Inv) : t.Inv := by
  unfold exec at h
  cases i with
  | nop => exact returnNothing_inv h hs
  | beginClock => exact returnNothing_inv h (hs.set_clk (beginAt_inv hs.clk (sampleCnt_lt s)))
  | rdNowUs | rdNowMs | rdEtUs | rdEtMs => exact returnData_inv h (updateClock_inv hs)
  | wrEtUs | wrEtMs | etReset => exact returnNothing_inv h ((updateClock_inv hs).set_etOff _)
  | rdB0Waspressed | rdB0Wasreleased | rdB0Dblclicked =>
    exact returnData_inv h (hs.set_b0 (hs.b0.congr rfl rfl rfl))
  | rdB1Waspressed | rdB1Wasreleased | rdB1Dblclicked =>
    exact returnData_inv h (hs.set_b1 (hs.b1.congr rfl rfl rfl))
  | wrB0Debounce | wrB0ClickMs | wrB0PressMs | wrB0DuringMs | wrB0IdleMs | wrB0TickMs | wrB0EvtEn =>
    exact writeB0_inv h hs
  | wrB1Debounce | wrB1ClickMs | wrB1PressMs | wrB1DuringMs | wrB1IdleMs | wrB1TickMs | wrB1EvtEn =>
    exact writeB1_inv h hs
  | wrB0EvtStatus => exact returnNothing_inv h (hs.set_b0 (hs.b0.congr rfl rfl rfl))
  | wrB1EvtStatus => exact returnNothing_inv h (hs.set_b1 (hs.b1.congr rfl rfl rfl))
  | bReset0 => exact returnNothing_inv h (hs.set_b0 (fsmReset_inv s.b0))
  | bReset1 => exact returnNothing_inv h (hs.set_b1 (fsmReset_inv s.b1))
  | bTick => exact returnEvents_inv h (hs.set_b0 (buttonTick_inv hs.b0))
  | jTick => exact execJTick_inv h hs
  | wrAlpha => exact writeAxis_inv h hs (clampWrite_toNat_le _ _ _) hs.ax.calN_pos
  | wrCalN => exact writeAxis_inv h hs hs.ax.alpha_le (calNWrite_pos _)
  | wrJoyCtrl | wrDeadzone | wrCalxMin | wrCalxCenter | wrCalxMax | wrCalyMin | wrCalyCenter | wrCalyMax =>
    exact writeAxis_inv h hs hs.ax.alpha_le hs.ax.calN_pos
  | calibrate => exact returnNothing_inv h (hs.set_ax (hs.ax.set_cfg hs.ax.alpha_le hs.ax.calN_pos))
  | wrEnterTh => exact writeDir_inv h hs (clampWrite_toNat_le _ _ _) hs.de.exit_le
  | wrExitTh => exact writeDir_inv h hs hs.de.enter_le (clampWrite_toNat_le _ _ _)
  | wrMoveEps | wrRepeatMs | wrJevtEn => exact writeDir_inv h hs hs.de.enter_le hs.de.exit_le
  | wrJevtStatus =>
    exact returnNothing_inv h (hs.set_de ⟨hs.de.enter_le, hs.de.exit_le, hs.de.mag_le, hs.de.lrx_range,
      hs.de.lry_range, hs.de.center_iff⟩)
  | _ => exact returnData_inv h hs

theorem execNotRow_inv {e : NotRow} {s t : State} (h : execNotRow e s = .next t) (hs : s.Inv) : t.Inv := by
  cases e with
  | unmappedRead => exact returnData_inv h hs
  | unmappedWrite | readOnlyWrite | reservedCommand => exact returnNothing_inv h hs

theorem runWord_inv {cw : CmdWord} {s t : State} (h : runWord cw s = .next t) (hs : s.Inv) : t.Inv := by
  unfold runWord at h
  split at h
  · exact exec_inv h hs
  · exact execNotRow_inv h hs

/-- Settles O59: by the next move of the environment; no move changes nothing, `rst` leaves the reset state, and a command
word runs one operation. -/
theorem stepKeepsTheInvariant : Obligations.StepKeepsTheInvariant := by
  unfold Obligations.StepKeepsTheInvariant
  intro s t hs h
  match hm : s.moves with
  | [] =>
    cases (takeMove_nil hm).symm.trans h
    exact hs
  | .rst :: rest =>
    cases (takeMove_rst hm).symm.trans h
    exact hardwareReset_inv _
  | .op cw p :: rest =>
    exact runWord_inv ((takeMove_op hm).symm.trans h) ⟨hs.clk, hs.b0, hs.b1, hs.ax, hs.de⟩

end Sys2Proof.Machine
end

section
/-! Certificates for 10_state.md: reads of the button status registers (R26, R238 to R240, R244, R245). -/

namespace Sys2Proof.Machine

/-- Fields laid side by side, read as a number. -/
theorem toNat_append_eq_add {m n : Nat} (x : BitVec m) (y : BitVec n) : (x ++ y).toNat = x.toNat * 2 ^ n + y.toNat := by
  rw [BitVec.toNat_append, ← Nat.shiftLeft_add_eq_or_of_lt y.isLt, Nat.shiftLeft_eq]

theorem zext32_toNat {n : Nat} (h : n ≤ 32) (v : BitVec n) : (zext32 v).toNat = v.toNat :=
  BitVec.toNat_setWidth_of_le h

/-- `max_clicks`, as a number (R142). -/
theorem maxClicks_toNat (b : Button) : (maxClicks b).toNat = if b.cfg.evtEn.getLsbD 4 then 255 else 2 :=
  apply_ite BitVec.toNat _ _ _

end Sys2Proof.Machine

namespace Sys2Proof.Claims

open Sys2Proof.Machine

/-- An operation that returns a word and nothing else reads as the number of that word. -/
theorem readsNat_of_returnData {i : Instr} {s : State} {v : Word} {n : Nat} (hn : v.toNat = n)
    (h : exec i s = returnData v s) : ReadsNat i s n := ⟨v, hn, h⟩

theorem toNat_ofBool_eq_bit (b : Bool) : (BitVec.ofBool b).toNat = bit b := by
  cases b <;> rfl

/-- The codes of the button states are the numbers of R26. -/
theorem fsmState_code_toNat (st : FsmState) : st.code.toNat = stateNumber st := by
  cases st <;> rfl

/-- `STATE`, field by field (R238). -/
theorem stateWord_toNat (b : Button) :
    (stateWord b).toNat =
      stateNumber b.state + 8 * bit b.deb + 16 * bit b.lastRaw + 32 * bit b.idleFired +
        64 * bit (b.state == .init) + 128 * bit (b.state == .press) := by
  rw [stateWord, zext32_toNat (by decide)]
  simp only [toNat_append_eq_add, toNat_ofBool_eq_bit, fsmState_code_toNat, isIdle, isLong]
  ring

/-- Settles O11: each read returns its element, unchanged, as a 32-bit word. -/
theorem buttonStatusReads : Obligations.ButtonStatusReads := by
  unfold Obligations.ButtonStatusReads
  intro s word
  have hclicks (n : BitVec 8) : (zext32 n).toNat = n.toNat := zext32_toNat (by decide) n
  refine ⟨⟨?state0, ?nclicks0, ?hold0, ?time0, ?max0⟩, ⟨?state1, ?nclicks1, ?hold1, ?time1, ?max1⟩⟩
  case state0 => exact readsNat_of_returnData (stateWord_toNat s.b0) rfl
  case state1 => exact readsNat_of_returnData (stateWord_toNat s.b1) rfl
  case nclicks0 => exact readsNat_of_returnData (hclicks s.b0.nclicks) rfl
  case nclicks1 => exact readsNat_of_returnData (hclicks s.b1.nclicks) rfl
  case max0 => exact readsNat_of_returnData ((hclicks _).trans (maxClicks_toNat s.b0)) rfl
  case max1 => exact readsNat_of_returnData ((hclicks _).trans (maxClicks_toNat s.b1)) rfl
  case hold0 | time0 | hold1 | time1 => exact readsNat_of_returnData rfl rfl

end Sys2Proof.Claims
end

section
/-! Certificates for 20_memory.md: a command word with `w` = 0 is `RegRead` of its address and one with `w` = 1 is `RegWrite`
(R72, R73), so what the address map says of an address (R71) is what the word does. -/

namespace Sys2Proof.Machine

/-- Field `w` of a word, read off its number (R90). -/
theorem cwWrite_eq_decide (cw : CmdWord) : cwWrite cw = decide (cw.toNat / 2 ^ 40 = 1) := by
  have hlt : cw.toNat < 2 ^ 41 := cw.isLt
  rw [cwWrite, ← BitVec.testBit_toNat, Nat.testBit_eq_decide_div_mod_eq, decide_eq_decide]
  omega

/-- A word with `w` = 0 reads the register it addresses (R72, R91). -/
theorem runWord_eq_regRead {cw : CmdWord} (hw : cwWrite cw = false) (s : State) :
    runWord cw s = regRead (cwAddr cw) s := by
  cases hr : decodeRead (cwAddr cw) with
  | some i => simp [runWord, decode, regRead, hw, hr]
  | none => simp [runWord, decode, regRead, execNotRow, hw, hr]

/-- A word with `w` = 1 and an address other than that of `CMD` writes the register it addresses; whether the word is no row
of the table because the address is unmapped or because the register is read-only makes no difference (R73, R92). -/
theorem runWord_eq_regWrite {cw : CmdWord} (hw : cwWrite cw = true) (ha : cwAddr cw ≠ 0x00#8) (s : State) :
    runWord cw s = regWrite (cwAddr cw) (cwData cw) s := by
  cases hd : decodeWrite (cwAddr cw) (cwData cw) with
  | some i => simp [runWord, decode, regWrite, hw, ha, hd]
  | none => cases hr : decodeRead (cwAddr cw) <;> simp [runWord, decode, regWrite, execNotRow, hw, ha, hd, hr]

end Sys2Proof.Machine

namespace Sys2Proof.Claims

open Sys2Proof.Machine

/-- The read table leaves out exactly the unmapped addresses of R71. -/
theorem decodeRead_eq_none_iff (a : Addr) : decodeRead a = none ↔ Unmapped a.toNat := by
  unfold Unmapped
  revert a
  decide

/-- No row of the write table has an unmapped address or that of an R or RC register (R71, R92). -/
theorem not_unmapped_or_readOnly_of_decodeWrite {a : Addr} {v : Word} {i : Instr} (h : decodeWrite a v = some i) :
    ¬ (Unmapped a.toNat ∨ ReadOnly a.toNat) := by
  unfold decodeWrite at h
  split at h <;> simp [Unmapped, ReadOnly] at h ⊢

/-- `CMD` is mapped and can be written (R40, R71). -/
theorem ne_zero_of_unmapped_or_readOnly {a : Addr} (h : Unmapped a.toNat ∨ ReadOnly a.toNat) : a ≠ 0x00#8 := by
  rintro rfl
  simp [Unmapped, ReadOnly] at h

theorem regRead_of_unmapped {a : Addr} (h : Unmapped a.toNat) (s : State) : regRead a s = returnData 0 s := by
  simp [regRead, (decodeRead_eq_none_iff a).mpr h]

theorem regWrite_of_unmapped_or_readOnly {a : Addr} (h : Unmapped a.toNat ∨ ReadOnly a.toNat) (v : Word) (s : State) :
    regWrite a v s = returnNothing s := by
  cases hd : decodeWrite a v with
  | some i => exact absurd h (not_unmapped_or_readOnly_of_decodeWrite hd)
  | none => simp [regWrite, hd, ne_zero_of_unmapped_or_readOnly h]

/-- Settles O4: the word is a `RegRead` or a `RegWrite` of its address, by its bit `w`, and the address has no operation. -/
theorem unmappedAndReadOnlyAccessesDoNothing : Obligations.UnmappedAndReadOnlyAccessesDoNothing := by
  unfold Obligations.UnmappedAndReadOnlyAccessesDoNothing
  intro cw s
  rw [addrNat_eq_cwAddr]
  constructor
  · intro hw hu
    calc runWord cw s = regRead (cwAddr cw) s := runWord_eq_regRead (by rw [cwWrite_eq_decide, hw]; rfl) s
      _ = returnData 0 s := regRead_of_unmapped hu s
  · intro hw hu
    have ha : cwAddr cw ≠ 0x00#8 := ne_zero_of_unmapped_or_readOnly hu
    calc runWord cw s = regWrite (cwAddr cw) (cwData cw) s := runWord_eq_regWrite (by rw [cwWrite_eq_decide, hw]; rfl) ha s
      _ = returnNothing s := regWrite_of_unmapped_or_readOnly hu _ s

end Sys2Proof.Claims
end

section
/-! Certificates for 30_encoding.md, the command word (R90 to R94): the decoder read backwards, the row of each operation and
the words that have a row's fixed bits. -/

namespace Sys2Proof

open Sys2Proof.Machine Sys2Proof.Claims

/-- Which words decode to an operation, by format (R90 to R93). -/
theorem decode_eq_ok_iff {cw : CmdWord} {i : Instr} :
    decode cw = .ok i ↔
      (cwWrite cw = false ∧ decodeRead (cwAddr cw) = some i) ∨
      (cwWrite cw = true ∧ cwAddr cw ≠ 0x00#8 ∧ decodeWrite (cwAddr cw) (cwData cw) = some i) ∨
      (cwWrite cw = true ∧ cwAddr cw = 0x00#8 ∧ decodeCommand ((cwData cw).setWidth 8) = some i) := by
  cases hw : cwWrite cw with
  | false => cases hr : decodeRead (cwAddr cw) <;> simp [decode, hw, hr]
  | true =>
    by_cases ha : cwAddr cw = 0x00#8
    · cases hc : decodeCommand ((cwData cw).setWidth 8) <;> simp [decode, hw, ha, hc]
    · cases hd : decodeWrite (cwAddr cw) (cwData cw) with
      | some j => simp [decode, hw, ha, hd]
      | none => cases hr : decodeRead (cwAddr cw) <;> simp [decode, hw, ha, hd, hr]

/-- The row of an operation: its encoding in one of the three formats, and the table that leads back to it. -/
inductive HasRow (i : Instr) : Prop
  | read (a : Addr) (henc : encode i = encodeRead a) (hdec : decodeRead a = some i)
  | write (a : Addr) (v : Word) (ha : a ≠ 0x00#8) (henc : encode i = encodeWrite a v) (hdec : decodeWrite a v = some i)
  | command (c : BitVec 8) (henc : encode i = encodeCommand c) (hdec : decodeCommand c = some i)

/-- Every operation has a row (R91 to R94); the cases that are not named are the reads. -/
theorem hasRow (i : Instr) : HasRow i := by
  cases i with
  | wrEtUs v | wrEtMs v | wrB0Debounce v | wrB0ClickMs v | wrB0PressMs v | wrB0DuringMs v | wrB0IdleMs v | wrB0TickMs v
  | wrB0EvtEn v | wrB0EvtStatus v | wrB1Debounce v | wrB1ClickMs v | wrB1PressMs v | wrB1DuringMs v | wrB1IdleMs v
  | wrB1TickMs v | wrB1EvtEn v | wrB1EvtStatus v | wrJoyCtrl v | wrAlpha v | wrDeadzone v | wrMoveEps v | wrEnterTh v
  | wrExitTh v | wrRepeatMs v | wrCalN v | wrCalxMin v | wrCalxCenter v | wrCalxMax v | wrCalyMin v | wrCalyCenter v
  | wrCalyMax v | wrJevtEn v | wrJevtStatus v => exact .write _ v (by decide) rfl rfl
  | nop | beginClock | bTick | jTick | bReset0 | bReset1 | calibrate | etReset => exact .command _ rfl rfl
  | _ => exact .read _ rfl rfl

/-- Settles O6: in each of the three formats the fields of the encoded word are the ones the table of the format takes back
to the operation. -/
theorem decodeInvertsEncode : Obligations.DecodeInvertsEncode := by
  unfold Obligations.DecodeInvertsEncode
  intro i
  rw [decode_eq_ok_iff]
  cases hasRow i with
  | read a henc hdec => exact .inl (by simp [henc, hdec])
  | write a v ha henc hdec => exact .inr (.inl (by simp [henc, ha, hdec]))
  | command c henc hdec => exact .inr (.inr (by simp [henc, hdec]))

/-! The rows, from the address or the code. -/

theorem row_of_decodeRead {a : Addr} {i : Instr} (h : decodeRead a = some i) :
    encode i = encodeRead a ∧ fixedMask i = 0x1FF00000000#41 := by
  unfold decodeRead at h
  split at h <;> cases h <;> exact ⟨rfl, rfl⟩

theorem row_of_decodeWrite {a : Addr} {v : Word} {i : Instr} (h : decodeWrite a v = some i) :
    encode i = encodeWrite a v ∧ fixedMask i = 0x1FF00000000#41 := by
  unfold decodeWrite at h
  split at h <;> cases h <;> exact ⟨rfl, rfl⟩

theorem row_of_decodeCommand {c : BitVec 8} {i : Instr} (h : decodeCommand c = some i) :
    encode i = encodeCommand c ∧ fixedMask i = 0x1FF000000FF#41 := by
  unfold decodeCommand at h
  split at h <;> cases h <;> exact ⟨rfl, rfl⟩

/-! Words with equal fields have equal bits there. -/

theorem getLsbD_eq_of_cwAddr {cw e : CmdWord} (hw : cwWrite cw = cwWrite e) (ha : cwAddr cw = cwAddr e) {i : Nat}
    (hi : 32 ≤ i) (hlt : i < 41) : cw.getLsbD i = e.getLsbD i := by
  rcases Nat.lt_or_eq_of_le (Nat.le_of_lt_succ hlt) with h | rfl
  · have := congrArg (fun a : Addr => a.getLsbD (i - 32)) ha
    simpa [cwAddr, show i - 32 < 8 by omega, show 32 + (i - 32) = i by omega] using this
  · exact hw

theorem getLsbD_eq_of_cwData {cw e : CmdWord} (hd : cwData cw = cwData e) {i : Nat} (hi : i < 32) :
    cw.getLsbD i = e.getLsbD i := by
  simpa [cwData, hi] using congrArg (fun d : Word => d.getLsbD i) hd

theorem getLsbD_eq_of_cwCode {cw e : CmdWord} (hc : (cwData cw).setWidth 8 = (cwData e).setWidth 8) {i : Nat}
    (hi : i < 8) : cw.getLsbD i = e.getLsbD i := by
  simpa [cwData, hi, show i < 32 by omega] using congrArg (fun c : BitVec 8 => c.getLsbD i) hc

/-- The three fields are all of a word (R90). -/
theorem cmdWord_ext {cw e : CmdWord} (hw : cwWrite cw = cwWrite e) (ha : cwAddr cw = cwAddr e)
    (hd : cwData cw = cwData e) : cw = e := by
  refine BitVec.eq_of_getLsbD_eq fun i hi => ?_
  rcases Nat.lt_or_ge i 32 with h | h
  · exact getLsbD_eq_of_cwData hd h
  · exact getLsbD_eq_of_cwAddr hw ha h hi

/-- The fixed bits of a read or a write are `w` and `addr` (R91, R92). -/
theorem and_addrMask_congr {cw e : CmdWord} (hw : cwWrite cw = cwWrite e) (ha : cwAddr cw = cwAddr e) :
    cw &&& 0x1FF00000000#41 = e &&& 0x1FF00000000#41 := by
  refine BitVec.eq_of_getLsbD_eq fun i hi => ?_
  rw [BitVec.getLsbD_and, BitVec.getLsbD_and]
  rcases Nat.lt_or_ge i 32 with h | h
  · have hmask : (0x1FF00000000#41).getLsbD i = false := by interval_cases i <;> rfl
    rw [hmask, Bool.and_false, Bool.and_false]
  · rw [getLsbD_eq_of_cwAddr hw ha h hi]

/-- The fixed bits of a command are `w`, `addr` and the code (R93). -/
theorem and_commandMask_congr {cw e : CmdWord} (hw : cwWrite cw = cwWrite e) (ha : cwAddr cw = cwAddr e)
    (hc : (cwData cw).setWidth 8 = (cwData e).setWidth 8) :
    cw &&& 0x1FF000000FF#41 = e &&& 0x1FF000000FF#41 := by
  refine BitVec.eq_of_getLsbD_eq fun i hi => ?_
  rw [BitVec.getLsbD_and, BitVec.getLsbD_and]
  rcases Nat.lt_or_ge i 8 with h8 | h8
  · rw [getLsbD_eq_of_cwCode hc h8]
  rcases Nat.lt_or_ge i 32 with h | h
  · have hmask : (0x1FF000000FF#41).getLsbD i = false := by interval_cases i <;> rfl
    rw [hmask, Bool.and_false, Bool.and_false]
  · rw [getLsbD_eq_of_cwAddr hw ha h hi]

/-- Settles O7: the format by which the word decodes gives the operation's row, whose encoding has the word's fields. -/
theorem decodedWordsAgreeWithTheEncoder : Obligations.DecodedWordsAgreeWithTheEncoder := by
  unfold Obligations.DecodedWordsAgreeWithTheEncoder
  intro cw i h
  rw [← decide_eq_true_iff (p := cw.toNat / 2 ^ 40 = 1), ← cwWrite_eq_decide, addrNat_eq_cwAddr]
  rcases decode_eq_ok_iff.mp h with ⟨hw, hread⟩ | ⟨hw, -, hwrite⟩ | ⟨hw, ha, hcommand⟩
  · obtain ⟨henc, hmask⟩ := row_of_decodeRead hread
    rw [henc, hmask]
    exact ⟨and_addrMask_congr (by simp [hw]) (by simp), fun hw' => absurd (hw.symm.trans hw') (by decide)⟩
  · obtain ⟨henc, -⟩ := row_of_decodeWrite hwrite
    have hcw : encode i = cw := henc.trans (cmdWord_ext (by simp [hw]) (by simp) (by simp))
    exact ⟨by rw [hcw], fun _ _ => hcw⟩
  · obtain ⟨henc, hmask⟩ := row_of_decodeCommand hcommand
    rw [henc, hmask]
    exact ⟨and_commandMask_congr (by simp [hw]) (by simp [ha]) (by simp),
      fun _ ha' => absurd (congrArg BitVec.toNat ha) ha'⟩

end Sys2Proof
end

section
/-! Certificates for 30_encoding.md, how the operations of each format complete, which of them sample `cnt_in`, and
CALIBRATE (R90, R97, R110, R112, R211, R295). -/

namespace Sys2Proof.Machine

open Sys2Proof.Claims

/-! How an operation completes (R90, R295). -/

/-- The three ways an operation completes, each with the field `w` of its command word. -/
inductive Completion (i : Instr) (s : State) : Prop
  | read (v : Word) (s' : State) (hw : cwWrite (encode i) = false) (h : exec i s = returnData v s')
  | write (s' : State) (hw : cwWrite (encode i) = true) (h : exec i s = returnNothing s')
  | tick (ev : List EventWord) (s' : State) (hw : cwWrite (encode i) = true) (hi : i = .bTick ∨ i = .jTick)
      (h : exec i s = returnEvents ev s')

/-- The cases that are not named are the reads. -/
theorem exec_completion (i : Instr) (s : State) : Completion i s := by
  cases i with
  | bTick => exact .tick _ _ (cwWrite_encodeCommand _) (.inl rfl) rfl
  | jTick => exact .tick _ _ (cwWrite_encodeCommand _) (.inr rfl) rfl
  | nop | beginClock | bReset0 | bReset1 | calibrate | etReset => exact .write _ (cwWrite_encodeCommand _) rfl
  | wrEtUs | wrEtMs | wrB0Debounce | wrB0ClickMs | wrB0PressMs | wrB0DuringMs | wrB0IdleMs | wrB0TickMs | wrB0EvtEn
  | wrB0EvtStatus | wrB1Debounce | wrB1ClickMs | wrB1PressMs | wrB1DuringMs | wrB1IdleMs | wrB1TickMs | wrB1EvtEn
  | wrB1EvtStatus | wrJoyCtrl | wrAlpha | wrDeadzone | wrMoveEps | wrEnterTh | wrExitTh | wrRepeatMs | wrCalN | wrCalxMin
  | wrCalxCenter | wrCalxMax | wrCalyMin | wrCalyCenter | wrCalyMax | wrJevtEn | wrJevtStatus =>
    exact .write _ (cwWrite_encodeWrite _ _) rfl
  | _ => exact .read _ _ (cwWrite_encodeRead _) rfl

theorem cwWrite_eq_false_iff (cw : CmdWord) : cwWrite cw = false ↔ cw.toNat / 2 ^ 40 = 0 := by
  have hlt : cw.toNat < 2 ^ 41 := cw.isLt
  rw [cwWrite_eq_decide, decide_eq_false_iff_not]
  omega

/-- Settles O56: by the way the operation completes. -/
theorem onlyReadsReturnAndOnlyTicksEmit : Obligations.OnlyReadsReturnAndOnlyTicksEmit := by
  unfold Obligations.OnlyReadsReturnAndOnlyTicksEmit
  intro i s t h
  rw [← cwWrite_eq_false_iff]
  cases exec_completion i s with
  | read v s' hw hexec =>
    rw [returnData_eq_next.mp (hexec.symm.trans h)]
    exact ⟨iff_of_true rfl hw, fun _ _ => rfl⟩
  | write s' hw hexec =>
    rw [returnNothing_eq_next.mp (hexec.symm.trans h)]
    exact ⟨by simp [hw], fun _ _ => rfl⟩
  | tick ev s' hw hi hexec =>
    rw [returnEvents_eq_next.mp (hexec.symm.trans h)]
    exact ⟨by simp [hw], fun hb hj => absurd hi (not_or_intro hb hj)⟩

/-! The clock (R97, R110, R112). -/

theorem counterDelta_lt (bits last cnt : Nat) : counterDelta bits last cnt < 2 ^ bits := by
  have hpos : 0 < 2 ^ bits := Nat.two_pow_pos bits
  unfold counterDelta
  generalize 2 ^ bits = m at *
  have hlt := Int.emod_lt_of_pos ((last : Int) - cnt) (Int.natCast_pos.mpr hpos)
  omega

/-- The down-counter stands `counterDelta` counts below its last sample, modulo its width. -/
theorem counterDelta_add_mod (bits last cnt : Nat) :
    (counterDelta bits last cnt + cnt) % 2 ^ bits = last % 2 ^ bits := by
  have hpos : 0 < 2 ^ bits := Nat.two_pow_pos bits
  unfold counterDelta
  generalize 2 ^ bits = m at *
  have hnonneg : 0 ≤ ((last : Int) - cnt) % m := Int.emod_nonneg _ (by omega)
  apply Int.ofNat_inj.mp
  push_cast
  rw [Int.toNat_of_nonneg hnonneg, Int.emod_add_emod, sub_add_cancel]

/-- The clock update is the one R110 describes. -/
theorem clockAfter_updateClock (s : State) : ClockAfter s (updateClock s).clk := by
  refine ⟨clockUpdate_clkInit _ _ _, fun h => clockUpdate_of_not_begun _ _ _ h, fun h => ?_⟩
  rw [updateClock_clk, clockUpdate_of_begun _ _ _ h]
  refine ⟨rfl, Nat.mod_lt _ (cntPerUs_pos _), _, _, counterDelta_lt s.par.cntBits s.clk.lastCnt (sampleCnt s),
    counterDelta_add_mod _ _ _, Nat.div_add_mod' _ _, ?_⟩
  simp [BitVec.toNat_add]

/-- The operations that sample `cnt_in`, by their addresses (R97). -/
theorem samplesCnt_iff (i : Instr) :
    samplesCnt i = true ↔
      (0x04 ≤ addrNat (encode i) ∧ addrNat (encode i) ≤ 0x07) ∨ i = .beginClock ∨ i = .etReset ∨ i = .jTick := by
  cases i with
  | rdNowUs | rdNowMs | rdEtUs | rdEtMs | wrEtUs | wrEtMs => exact iff_of_true rfl (.inl (by simp [encode]))
  | beginClock => exact iff_of_true rfl (.inr (.inl rfl))
  | etReset => exact iff_of_true rfl (.inr (.inr (.inl rfl)))
  | jTick => exact iff_of_true rfl (.inr (.inr (.inr rfl)))
  | _ => exact iff_of_false Bool.false_ne_true (by simp [encode])

/-- An operation that does not sample `cnt_in` leaves the clock alone. -/
theorem exec_clk_of_not_samplesCnt {i : Instr} {s t : State} (hi : samplesCnt i = false) (h : exec i s = .next t) :
    t.clk = s.clk := by
  cases i with
  | rdNowUs | rdNowMs | rdEtUs | rdEtMs | wrEtUs | wrEtMs | beginClock | jTick | etReset => contradiction
  | _ =>
    cases h
    rfl

/-- An operation that samples `cnt_in`, other than BEGIN, does one clock update. -/
theorem exec_clk_of_samplesCnt {i : Instr} {s t : State} (hi : samplesCnt i = true) (hb : i ≠ .beginClock)
    (h : exec i s = .next t) : t.clk = (updateClock s).clk := by
  cases i with
  | beginClock => contradiction
  | rdNowUs | rdNowMs | rdEtUs | rdEtMs | wrEtUs | wrEtMs | jTick | etReset =>
    cases h
    rfl
  | _ => contradiction

theorem exec_beginClock_clk {s t : State} (h : exec .beginClock s = .next t) :
    t.clk = beginAt (sampleCnt s) s.clk := by
  cases h
  rfl

theorem beginAt_of_begun {c : Clock} (h : c.clkInit = true) (cnt : Nat) : beginAt cnt c = c := if_pos h

theorem beginAt_of_not_begun {c : Clock} (h : c.clkInit = false) (cnt : Nat) :
    beginAt cnt c = { clkInit := true, lastCnt := cnt, frac := 0, usAcc := 0 } := by
  simp [beginAt, h]

/-- Only BEGIN writes `clk_init` (R112). -/
theorem exec_clkInit {i : Instr} {s t : State} (hb : i ≠ .beginClock) (h : exec i s = .next t) :
    t.clk.clkInit = s.clk.clkInit := by
  cases hi : samplesCnt i with
  | false => rw [exec_clk_of_not_samplesCnt hi h]
  | true => rw [exec_clk_of_samplesCnt hi hb h, updateClock_clk, clockUpdate_clkInit]

/-- Settles O27: an operation leaves the clock alone, updates it or begins it, by whether it samples `cnt_in` and is BEGIN. -/
theorem onlySamplingOperationsMoveTheClock : Obligations.OnlySamplingOperationsMoveTheClock := by
  unfold Obligations.OnlySamplingOperationsMoveTheClock
  intro i s t h
  have hbegun : i = .beginClock → s.clk.clkInit = true → t.clk = s.clk := by
    rintro rfl hs
    rw [exec_beginClock_clk h, beginAt_of_begun hs]
  refine ⟨samplesCnt_iff i, fun hi => exec_clk_of_not_samplesCnt hi h, ?update, ?start, hbegun,
    fun hb => exec_clkInit hb h, ?stays⟩
  case update =>
    intro hi hb
    rw [exec_clk_of_samplesCnt hi hb h]
    exact clockAfter_updateClock s
  case start =>
    rintro rfl hs
    rw [exec_beginClock_clk h, beginAt_of_not_begun hs]
    rfl
  case stays =>
    intro hs
    by_cases hb : i = .beginClock
    · rwa [hbegun hb hs]
    · rwa [exec_clkInit hb h]

/-! CALIBRATE (R211). -/

theorem acquireFrom_length (n : Nat) (p : Raw × Raw) (qs : List (Raw × Raw)) : (acquireFrom n p qs).length = n := by
  induction n generalizing p qs with
  | zero => rfl
  | succ n ih => cases qs <;> simp [acquireFrom, ih]

theorem acquireFrom_head? {n : Nat} (hn : 1 ≤ n) (p : Raw × Raw) (qs : List (Raw × Raw)) :
    (acquireFrom n p qs).head? = some p := by
  obtain ⟨m, rfl⟩ := Nat.exists_eq_add_of_le' hn
  cases qs <;> rfl

/-- After the first pair the listed ones are taken, in order. -/
theorem acquireFrom_getElem?_succ {n k : Nat} {p : Raw × Raw} {qs : List (Raw × Raw)} (hk : k < qs.length)
    (hn : k + 1 < n) : (acquireFrom n p qs)[k + 1]? = qs[k]? := by
  induction k generalizing n p qs with
  | zero =>
    obtain ⟨m, rfl⟩ := Nat.exists_eq_add_of_le' hn
    obtain ⟨q, qs, rfl⟩ := List.exists_cons_of_length_pos hk
    cases qs <;> rfl
  | succ k ih =>
    obtain ⟨m, rfl⟩ := Nat.exists_eq_add_of_le' (Nat.one_le_of_lt hn)
    cases qs with
    | nil => contradiction
    | cons q qs => exact ih (Nat.lt_of_succ_lt_succ hk) (Nat.lt_of_succ_lt_succ hn)

/-- The average of samples of 12 bits fits 12 bits. -/
theorem calAverage_toNat {n : Nat} {vs : List Raw} (hlen : vs.length = n) :
    (calAverage n vs).toNat = (vs.map BitVec.toNat).sum / n := by
  have hsum : (vs.map BitVec.toNat).sum ≤ n * 4095 := by
    have hle : ∀ x ∈ vs.map BitVec.toNat, x ≤ 4095 := by
      intro x hx
      obtain ⟨v, -, rfl⟩ := List.mem_map.mp hx
      exact Nat.le_of_lt_succ v.isLt
    simpa [hlen] using List.sum_le_card_nsmul _ _ hle
  rw [calAverage, BitVec.toNat_ofNat]
  exact Nat.mod_eq_of_lt (Nat.lt_of_le_of_lt (Nat.div_le_of_le_mul hsum) (by decide))

/-- The logical pair, as numbers (R170, R171). -/
theorem axisSample_toNat (c : AxisCfg) (p : Raw × Raw) :
    ((axisSample c p).1.toNat, (axisSample c p).2.toNat) = logicalPair c p := by
  have hchannel (mapped : Bool) (v : Raw) : (channel mapped v).toNat = if mapped then v.toNat else 0 :=
    apply_ite BitVec.toNat _ _ _
  unfold axisSample logicalPair
  cases c.swap <;> simp [hchannel]

theorem calSamples_length (s : State) : (calSamples s).length = s.ax.cfg.calN.toNat := by
  rw [calSamples, List.length_map]
  exact acquireFrom_length _ _ _

/-- Settles O54: the acquisitions see the listed pairs in order, and their averages are the centres stored. -/
theorem calibrateAveragesTheSamples : Obligations.CalibrateAveragesTheSamples := by
  unfold Obligations.CalibrateAveragesTheSamples
  intro s hn n samples
  have hpair (p : Raw × Raw) := axisSample_toNat s.ax.cfg p
  refine ⟨acquireFrom_length _ _ _, acquireFrom_head? hn _ _, fun k hk hkn => acquireFrom_getElem?_succ hk hkn,
    calAverage n ((calSamples s).map Prod.fst), calAverage n ((calSamples s).map Prod.snd), ?avgX, ?avgY, rfl⟩
  case avgX =>
    rw [calAverage_toNat (by rw [List.length_map, calSamples_length])]
    simp [calSamples, samples, n, ← hpair, Function.comp_def]
  case avgY =>
    rw [calAverage_toNat (by rw [List.length_map, calSamples_length])]
    simp [calSamples, samples, n, ← hpair, Function.comp_def]

end Sys2Proof.Machine
end

section
/-! Certificates for 30_encoding.md: the words written out in 95_test_vectors.md, section 2.1. -/

namespace Sys2Proof

/-- Settles O8: a word with every ignored bit 0 is an encoding; a word with other bits set there decodes by its fixed bits;
the words that are no row of the table are looked up. -/
theorem specWordsDecode : Obligations.SpecWordsDecode := by
  unfold Obligations.SpecWordsDecode
  have canonical (i : Instr) {cw : CmdWord} (h : encode i = cw) : decode cw = .ok i := h ▸ decodeInvertsEncode i
  exact ⟨canonical .nop rfl, canonical .beginClock rfl, canonical .jTick rfl,
    Laws.decode_command (c := 0x02#8) rfl rfl, canonical .calibrate rfl, Laws.decode_read (a := 0x01#8) rfl rfl,
    canonical (.wrB0Debounce 0xFFFFFFEC#32) rfl, canonical (.wrB1EvtEn 0x1FF#32) rfl,
    canonical (.wrAlpha 8192#32) rfl, canonical .rdDir8 rfl, rfl, rfl, rfl, rfl⟩

end Sys2Proof
end

section
/-! Certificates for 40_time.md: the clock's time and its update (R110 to R114, R120), and the elapsed timer (R115 to
R119, R122). -/

namespace Sys2Proof.Machine

open Sys2Proof.Claims

/-! The time of a clock (R111) and the elapsed time since the timer's offset (R118), as numbers. -/

theorem nowUs_of_begun {c : Clock} (h : c.clkInit = true) : nowUs c = c.usAcc := if_pos h

theorem elapsedUs_of_begun {s : State} (h : s.clk.clkInit = true) : elapsedUs s = nowUs s.clk - s.etOff := if_pos h

theorem nowUs_toNat (c : Clock) : (nowUs c).toNat = nowNat c := apply_ite BitVec.toNat _ _ _

theorem elapsedUs_toNat (s : State) : (elapsedUs s).toNat = elapsedNat s.clk s.etOff := by
  unfold elapsedNat
  split
  · rw [elapsedUs_of_begun ‹_›, nowUs_of_begun ‹_›, BitVec.toNat_sub, Nat.add_comm]
  · rw [elapsedUs, if_neg ‹_›]
    rfl

theorem ofNat_wholeMs_toNat (us : Micros) : (BitVec.ofNat 32 (wholeMs us)).toNat = us.toNat / 1000 % 2 ^ 32 :=
  BitVec.toNat_ofNat _ _

/-- The duration on top of the assigned offset is the time, modulo 2^64 (R116, R117). -/
theorem assignElapsed_etOff_add (d : Nat) (s : State) :
    ((assignElapsed d s).etOff.toNat + d) % 2 ^ 64 = nowNat s.clk := by
  rw [assignElapsed_etOff, ← nowUs_toNat]
  calc ((nowUs s.clk - BitVec.ofNat 64 d).toNat + d) % 2 ^ 64
      = (nowUs s.clk - BitVec.ofNat 64 d + BitVec.ofNat 64 d).toNat := by
        rw [BitVec.toNat_add, BitVec.toNat_ofNat, Nat.add_mod_mod]
    _ = (nowUs s.clk).toNat := by rw [BitVec.sub_add_cancel]

/-! What the operations of the family do. -/

/-- Settles O20: BEGIN stores what `beginAt` makes of the clock, before and after the clock has begun. -/
theorem beginStartsTheClockOnce : Obligations.BeginStartsTheClockOnce := by
  unfold Obligations.BeginStartsTheClockOnce
  intro s
  have hexec : exec .beginClock s = returnNothing { s with clk := beginAt (sampleCnt s) s.clk } := rfl
  rw [hexec]
  cases h : s.clk.clkInit with
  | true => rw [beginAt_of_begun h]; rfl
  | false => rw [beginAt_of_not_begun h]; rfl

/-- Settles O21: the clock is the updated one, and its time is returned in either unit. -/
theorem nowReadsUpdateTheClock : Obligations.NowReadsUpdateTheClock := by
  unfold Obligations.NowReadsUpdateTheClock
  intro s
  refine ⟨(updateClock s).clk, _, _, clockAfter_updateClock s, rfl, rfl, ?us, ?ms⟩
  case us => rw [BitVec.toNat_setWidth, nowUs_toNat]
  case ms => rw [ofNat_wholeMs_toNat, nowUs_toNat]

/-- Settles O22: the same with the elapsed time. -/
theorem timerReadsReportElapsedTime : Obligations.TimerReadsReportElapsedTime := by
  unfold Obligations.TimerReadsReportElapsedTime
  intro s
  refine ⟨(updateClock s).clk, _, _, clockAfter_updateClock s, rfl, rfl, ?us, ?ms⟩
  case us => rw [BitVec.toNat_setWidth, elapsedUs_toNat, updateClock_etOff]
  case ms => rw [ofNat_wholeMs_toNat, elapsedUs_toNat, updateClock_etOff]

/-- Settles O23: the three offsets are taken on the updated clock. -/
theorem timerWritesSetTheOffset : Obligations.TimerWritesSetTheOffset := by
  unfold Obligations.TimerWritesSetTheOffset
  intro s d
  exact ⟨(updateClock s).clk, _, _, _, clockAfter_updateClock s, rfl, rfl, rfl, nowUs_toNat _,
    assignElapsed_etOff_add d.toNat (updateClock s), assignElapsed_etOff_add (1000 * d.toNat) (updateClock s)⟩

/-! The counter delta (R110, R331) and the remainder (R120). -/

theorem counterDelta_self (bits cnt : Nat) : counterDelta bits cnt cnt = 0 := by simp [counterDelta]

/-- Settles O26: the first sample minus the second is `d` again, whatever multiple of the width the wrap added. -/
theorem counterDeltaSurvivesTheWrap : Obligations.CounterDeltaSurvivesTheWrap := by
  unfold Obligations.CounterDeltaSurvivesTheWrap
  intro bits last d
  have hpos : 0 < 2 ^ bits := Nat.two_pow_pos bits
  unfold counterDelta
  generalize 2 ^ bits = m at *
  have hcnt : 0 ≤ ((last : Int) - d) % m := Int.emod_nonneg _ (by omega)
  have hdelta : ((last : Int) - ((last : Int) - d) % m) % m = (d : Int) % m := by
    rw [Int.sub_emod, Int.emod_emod, ← Int.sub_emod, sub_sub_cancel]
  rw [Int.toNat_of_nonneg hcnt, hdelta, ← Int.natCast_emod, Int.toNat_natCast]

section
variable {p : Params} {cnt : Nat} {c : Clock}

theorem clockUpdate_lastCnt (h : c.clkInit = true) : (clockUpdate p cnt c).lastCnt = cnt := by
  rw [clockUpdate_of_begun p cnt c h]

theorem clockUpdate_frac (h : c.clkInit = true) :
    (clockUpdate p cnt c).frac = (c.frac + counterDelta p.cntBits c.lastCnt cnt) % p.cntPerUs := by
  rw [clockUpdate_of_begun p cnt c h]

theorem clockUpdate_usAcc (h : c.clkInit = true) :
    (clockUpdate p cnt c).usAcc =
      c.usAcc + BitVec.ofNat 64 ((c.frac + counterDelta p.cntBits c.lastCnt cnt) / p.cntPerUs) := by
  rw [clockUpdate_of_begun p cnt c h]

end

/-- Counts `a`, then `b` more on the remainder of `a`: the whole units of both together are those of the sum. -/
theorem div_add_mod_add_div {n : Nat} (hn : 0 < n) (a b : Nat) : a / n + (a % n + b) / n = (a + b) / n := by
  rw [← Nat.mul_add_div hn, ← Nat.add_assoc, Nat.div_add_mod]

/-- Settles O25, by induction on the samples: the first update leaves a remainder below `CNT_PER_US` and its sample,
from which the other updates go on. -/
theorem noCountIsLostToRounding : Obligations.NoCountIsLostToRounding := by
  unfold Obligations.NoCountIsLostToRounding
  intro p samples
  induction samples with
  | nil =>
    intro c _ hfrac
    simp [Nat.div_eq_of_lt hfrac, Nat.mod_eq_of_lt hfrac]
  | cons cnt samples ih =>
    intro c hbegun hfrac after total
    have htotal : total = c.frac + counterDelta p.cntBits c.lastCnt cnt +
        ((samples.zip (cnt :: samples)).map fun q => counterDelta p.cntBits q.2 q.1).sum := by
      simp only [total, List.zip_cons_cons, List.map_cons, List.sum_cons, Nat.add_assoc]
    have hfrac' : (clockUpdate p cnt c).frac < p.cntPerUs := by
      rw [clockUpdate_frac hbegun]
      exact Nat.mod_lt _ (cntPerUs_pos p)
    obtain ⟨hus, hrest⟩ := ih (clockUpdate p cnt c) ((clockUpdate_clkInit p cnt c).trans hbegun) hfrac'
    rw [clockUpdate_lastCnt hbegun, clockUpdate_frac hbegun] at hus hrest
    rw [clockUpdate_usAcc hbegun, BitVec.add_assoc, ← BitVec.ofNat_add, div_add_mod_add_div (cntPerUs_pos p)] at hus
    rw [Nat.mod_add_mod] at hrest
    rw [htotal]
    exact ⟨hus, hrest⟩

/-! An assigned duration is read back (R122). -/

/-- A second update at the same count changes nothing: the first left a remainder below `CNT_PER_US`. -/
theorem clockUpdate_clockUpdate (p : Params) (cnt : Nat) (c : Clock) :
    clockUpdate p cnt (clockUpdate p cnt c) = clockUpdate p cnt c := by
  cases h : c.clkInit with
  | false => rw [clockUpdate_of_not_begun p cnt c h, clockUpdate_of_not_begun p cnt c h]
  | true =>
    rw [clockUpdate_of_begun p cnt _ ((clockUpdate_clkInit p cnt c).trans h), clockUpdate_of_begun p cnt c h]
    simp [counterDelta_self, Nat.div_eq_of_lt (Nat.mod_lt _ (cntPerUs_pos p))]

/-- In a state `t` that an assignment of `n` microseconds in `s` has left, an update at the same count finds them. -/
theorem elapsedUs_updateClock_of_assigned {s t : State} {n : Nat} (hbegun : s.clk.clkInit = true)
    (hclk : t.clk = (updateClock s).clk) (hoff : t.etOff = nowUs (updateClock s).clk - BitVec.ofNat 64 n)
    (hpar : t.par = s.par) (hcnt : t.ports.cnt = s.ports.cnt) : elapsedUs (updateClock t) = BitVec.ofNat 64 n := by
  have hupdated : (updateClock t).clk = (updateClock s).clk := by
    rw [updateClock_clk, hclk, updateClock_clk, sampleCnt, sampleCnt, hpar, hcnt, clockUpdate_clockUpdate]
  have hrunning : (updateClock s).clk.clkInit = true := (clockUpdate_clkInit _ _ _).trans hbegun
  rw [elapsedUs_of_begun (hupdated ▸ hrunning), hupdated, updateClock_etOff, hoff, sub_sub_cancel]

/-- The round trip in any unit: `i` assigns `n` microseconds, and `j` reads the elapsed time as `unit` of it. -/
theorem assigned_then_read {s : State} {p q : Ports} {rest : List Move} {i j : Instr} {n : Nat} {unit : Micros → Word}
    (hi : ∀ s, exec i s = returnNothing (assignElapsed n (updateClock s)))
    (hj : ∀ s, exec j s = returnData (unit (elapsedUs (updateClock s))) (updateClock s))
    (hbegun : s.clk.clkInit = true) (hcnt : q.cnt = p.cnt)
    (hm : s.moves = .op (encode i) p :: .op (encode j) q :: rest) :
    ∃ t u, step s = .next t ∧ step t = .next u ∧ u.out.rdata = some (unit (BitVec.ofNat 64 n)) := by
  refine ⟨_, _, (stepRunsTheDecodedInstruction s _ p _ i hm (decodeInvertsEncode i)).trans (hi _),
    (stepRunsTheDecodedInstruction _ _ q rest j rfl (decodeInvertsEncode j)).trans (hj _),
    congrArg (fun us => some (unit us)) ?_⟩
  exact elapsedUs_updateClock_of_assigned (s := { s with ports := p, moves := .op (encode j) q :: rest }) hbegun rfl rfl
    rfl hcnt

/-- Settles O24: a 32-bit duration fits the 64-bit offset arithmetic in microseconds and in milliseconds. -/
theorem elapsedTimerRoundTrip : Obligations.ElapsedTimerRoundTrip := by
  unfold Obligations.ElapsedTimerRoundTrip
  intro s d p q rest hbegun hcnt
  have hd : d.toNat < 2 ^ 32 := d.isLt
  have hus : (BitVec.ofNat 64 d.toNat).setWidth 32 = d := by
    apply BitVec.eq_of_toNat_eq
    rw [BitVec.toNat_setWidth, BitVec.toNat_ofNat, Nat.mod_eq_of_lt (show d.toNat < 2 ^ 64 by omega),
      Nat.mod_eq_of_lt hd]
  have hms : BitVec.ofNat 32 (wholeMs (BitVec.ofNat 64 (1000 * d.toNat))) = d := by
    apply BitVec.eq_of_toNat_eq
    rw [ofNat_wholeMs_toNat, BitVec.toNat_ofNat, Nat.mod_eq_of_lt (show 1000 * d.toNat < 2 ^ 64 by omega),
      Nat.mul_div_cancel_left _ (by decide), Nat.mod_eq_of_lt hd]
  constructor
  · intro hm
    simpa only [hus] using assigned_then_read (unit := BitVec.setWidth 32) (fun _ => rfl) (fun _ => rfl) hbegun hcnt hm
  · intro hm
    simpa only [hms] using assigned_then_read (unit := fun us => BitVec.ofNat 32 (wholeMs us)) (fun _ => rfl)
      (fun _ => rfl) hbegun hcnt hm

end Sys2Proof.Machine
end

section
/-! Certificates for 41_button.md, the parts of a tick before the state machine, and the button commands (R131 to R133,
R141, R144 to R146). -/

namespace Sys2Proof.Machine

/-! What a tick leaves in the elements that the state machine does not write: what steps 1 to 3 made of them (R130). -/

theorem preTick_lastChange (lvl : Bool) (b : Button) :
    (preTick lvl b).lastChange = if lvl = b.lastRaw then b.lastChange else (preTick lvl b).t := by
  rw [preTick_t]
  simp [preTick, debounce, latchEdges, advanceTime]

theorem preTick_wasPressed (lvl : Bool) (b : Button) :
    (preTick lvl b).wasPressed = (b.wasPressed || (lvl && !b.lastRaw)) := by
  simp [preTick, debounce]

theorem preTick_wasReleased (lvl : Bool) (b : Button) :
    (preTick lvl b).wasReleased = (b.wasReleased || (!lvl && b.lastRaw)) := by
  simp [preTick, debounce]

/-- The time base advances modulo 2^32 (R131). -/
theorem preTick_t_toNat (lvl : Bool) (b : Button) :
    (preTick lvl b).t.toNat = (b.t.toNat + b.cfg.tickMs.toNat) % 2 ^ 32 := by
  simp [BitVec.toNat_add]

section

variable {u : ButtonId} {lvl : Bool} {b b' : Button} {ev : List EventWord}

theorem evaluate_of_buttonTick (h : buttonTick u lvl b = (b', ev)) : evaluate u (preTick lvl b) = (b', ev) := h

/-- The elements the state machine does not write, after a tick. -/
theorem buttonTick_frame (h : buttonTick u lvl b = (b', ev)) :
    b'.cfg = b.cfg ∧ b'.t = (preTick lvl b).t ∧ b'.lastRaw = lvl ∧ b'.lastChange = (preTick lvl b).lastChange ∧
      b'.deb = (preTick lvl b).deb ∧ b'.wasPressed = (preTick lvl b).wasPressed ∧
      b'.wasReleased = (preTick lvl b).wasReleased := by
  simpa [evaluate_of_buttonTick h] using evaluate_frame u (preTick lvl b)

theorem buttonTick_t (h : buttonTick u lvl b = (b', ev)) : b'.t = (preTick lvl b).t := (buttonTick_frame h).2.1

theorem buttonTick_deb (h : buttonTick u lvl b = (b', ev)) : b'.deb = (preTick lvl b).deb := by
  obtain ⟨-, -, -, -, hdeb, -⟩ := buttonTick_frame h
  exact hdeb

end

/-- Settles O30: a tick leaves what its first three steps make of the time base, the latches and the debounce elements. -/
theorem tickTimeBaseLatchesAndDebounce : Obligations.TickTimeBaseLatchesAndDebounce := by
  unfold Obligations.TickTimeBaseLatchesAndDebounce
  intro u lvl b b' ev h
  obtain ⟨hcfg, ht, hraw, hchange, hdeb, hpressed, hreleased⟩ := buttonTick_frame h
  refine ⟨hcfg, ht ▸ preTick_t_toNat lvl b, ?pressed, ?released, hraw, ?change, ?level⟩
  case pressed => simp [hpressed, preTick_wasPressed]
  case released => simp [hreleased, preTick_wasReleased]
  case change => rw [hchange, preTick_lastChange, ht]
  case level =>
    rw [hdeb, preTick_deb, ht, Int.abs_eq_natAbs]
    simp only [Nat.cast_le]

/-- Settles O31: a level that is neither the one before nor kept comes from one of the two adopting rows of the filter. -/
theorem debouncedLevelNeedsAStableInterval : Obligations.DebouncedLevelNeedsAStableInterval := by
  unfold Obligations.DebouncedLevelNeedsAStableInterval
  intro u lvl b b' ev h hne
  have hdeb := preTick_deb lvl b
  rw [← buttonTick_deb h, ← buttonTick_t h] at hdeb
  split at hdeb
  case isTrue hnegative => exact ⟨hdeb.trans hnegative.2.symm, .inr hnegative⟩
  case isFalse =>
    split at hdeb
    case isTrue hstable => exact ⟨hdeb, .inl ⟨hstable.1.symm, hstable.2⟩⟩
    case isFalse => exact absurd hdeb hne

/-! A level held over the debounce interval (R131, R133). -/

/-- The button after a tick, without the records. -/
def ticked (u : ButtonId) (lvl : Bool) (b : Button) : Button := (buttonTick u lvl b).1

section

variable {u : ButtonId} {lvl : Bool} {b : Button} {ms : Nat}

@[simp] theorem ticked_cfg (u : ButtonId) (lvl : Bool) (b : Button) : (ticked u lvl b).cfg = b.cfg := by
  obtain ⟨hcfg, -⟩ := buttonTick_frame (b' := ticked u lvl b) rfl
  exact hcfg

@[simp] theorem ticked_lastRaw (u : ButtonId) (lvl : Bool) (b : Button) : (ticked u lvl b).lastRaw = lvl := by
  obtain ⟨-, -, hraw, -⟩ := buttonTick_frame (b' := ticked u lvl b) rfl
  exact hraw

theorem ticked_t (u : ButtonId) (lvl : Bool) (b : Button) : (ticked u lvl b).t = (preTick lvl b).t :=
  buttonTick_t (ev := (buttonTick u lvl b).2) rfl

theorem ticked_deb (u : ButtonId) (lvl : Bool) (b : Button) : (ticked u lvl b).deb = (preTick lvl b).deb :=
  buttonTick_deb (ev := (buttonTick u lvl b).2) rfl

theorem ticked_lastChange (u : ButtonId) (lvl : Bool) (b : Button) :
    (ticked u lvl b).lastChange = if lvl = b.lastRaw then b.lastChange else (ticked u lvl b).t := by
  obtain ⟨-, -, -, hchange, -⟩ := buttonTick_frame (b' := ticked u lvl b) rfl
  rw [hchange, preTick_lastChange, ticked_t]

/-- Milliseconds since the raw level last changed. -/
def sinceChange (b : Button) : Nat := since b b.lastChange

theorem debounceInterval_le (b : Button) : debounceInterval b ≤ 2 ^ 15 := by
  have hlo := BitVec.le_toInt b.cfg.debounce
  have hhi := BitVec.toInt_lt (x := b.cfg.debounce)
  unfold debounceInterval
  omega

@[simp] theorem debounceInterval_ticked (u : ButtonId) (lvl : Bool) (b : Button) :
    debounceInterval (ticked u lvl b) = debounceInterval b := by
  rw [debounceInterval, debounceInterval, ticked_cfg]

theorem sinceChange_ticked_of_change (h : lvl ≠ b.lastRaw) : sinceChange (ticked u lvl b) = 0 := by
  rw [sinceChange, since, ticked_lastChange, if_neg h, BitVec.sub_self, BitVec.toNat_zero]

/-- Within the interval the time since the change does not wrap: `TICK_MS` has 16 bits. -/
theorem sinceChange_ticked_of_same (h : lvl = b.lastRaw) (hle : sinceChange b ≤ debounceInterval b) :
    sinceChange (ticked u lvl b) = sinceChange b + b.cfg.tickMs.toNat := by
  have hinterval := debounceInterval_le b
  have htick : b.cfg.tickMs.toNat < 2 ^ 16 := b.cfg.tickMs.isLt
  rw [sinceChange, since, ticked_lastChange, if_pos h, ticked_t, preTick_t, add_sub_right_comm, BitVec.toNat_add]
  rw [sinceChange, since] at hle ⊢
  simp only [BitVec.toNat_setWidth]
  omega

/-- A tick that finds the level unchanged adopts it once the interval has passed. -/
theorem ticked_deb_of_interval (h : lvl = b.lastRaw) (hle : debounceInterval b ≤ sinceChange (ticked u lvl b)) :
    (ticked u lvl b).deb = lvl := by
  rw [sinceChange, since, ticked_lastChange, if_pos h, ticked_t] at hle
  rw [ticked_deb, preTick_deb]
  split
  case isTrue hnegative => exact hnegative.2.symm
  case isFalse => exact if_pos ⟨h, hle⟩

theorem ticked_deb_of_deb (h : b.deb = lvl) : (ticked u lvl b).deb = lvl := by
  rw [ticked_deb, preTick_deb, h, ite_self]
  split
  case isTrue hnegative => exact hnegative.2.symm
  case isFalse => rfl

/-- The level is adopted, or has been held for `ms` milliseconds at least and not for longer than the interval. -/
def HeldFor (lvl : Bool) (ms : Nat) (b : Button) : Prop :=
  b.deb = lvl ∨ ms ≤ sinceChange b ∧ sinceChange b ≤ debounceInterval b

/-- From any state: a change restarts the timer, and an unchanged level is adopted unless the interval is still running. -/
theorem heldFor_zero_ticked (u : ButtonId) (lvl : Bool) (b : Button) : HeldFor lvl 0 (ticked u lvl b) := by
  by_cases h : lvl = b.lastRaw
  · rcases le_total (debounceInterval b) (sinceChange (ticked u lvl b)) with hle | hle
    · exact .inl (ticked_deb_of_interval h hle)
    · exact .inr ⟨Nat.zero_le _, hle.trans_eq (debounceInterval_ticked u lvl b).symm⟩
  · rw [HeldFor, sinceChange_ticked_of_change h]
    exact .inr ⟨le_rfl, Nat.zero_le _⟩

theorem HeldFor.after_tick (h : HeldFor lvl ms b) (hraw : lvl = b.lastRaw) :
    HeldFor lvl (ms + b.cfg.tickMs.toNat) (ticked u lvl b) := by
  rcases h with hdeb | ⟨hms, hle⟩
  · exact .inl (ticked_deb_of_deb hdeb)
  · have hsince := sinceChange_ticked_of_same (u := u) hraw hle
    rcases le_total (debounceInterval b) (sinceChange (ticked u lvl b)) with hdue | hrunning
    · exact .inl (ticked_deb_of_interval hraw hdue)
    · exact .inr ⟨by omega, hrunning.trans_eq (debounceInterval_ticked u lvl b).symm⟩

/-- The debounced level after the tick on which a held level has lasted for the interval. -/
theorem HeldFor.deb_after_tick (h : HeldFor lvl ms b) (hraw : lvl = b.lastRaw)
    (hms : debounceInterval b ≤ ms + b.cfg.tickMs.toNat) : (ticked u lvl b).deb = lvl := by
  rcases h with hdeb | ⟨hheld, hle⟩
  · exact ticked_deb_of_deb hdeb
  · apply ticked_deb_of_interval hraw
    rw [sinceChange_ticked_of_same hraw hle]
    omega

/-- After `k + 1` ticks: the first one may see the level change, each later one adds its `TICK_MS`. -/
theorem heldFor_iterate_ticked (u : ButtonId) (lvl : Bool) (k : Nat) (b : Button) :
    ((ticked u lvl)^[k + 1] b).cfg = b.cfg ∧ ((ticked u lvl)^[k + 1] b).lastRaw = lvl ∧
      HeldFor lvl (k * b.cfg.tickMs.toNat) ((ticked u lvl)^[k + 1] b) := by
  induction k with
  | zero => exact ⟨ticked_cfg u lvl b, ticked_lastRaw u lvl b, by simpa using heldFor_zero_ticked u lvl b⟩
  | succ k ih =>
    obtain ⟨hcfg, hraw, hheld⟩ := ih
    rw [Function.iterate_succ_apply']
    refine ⟨(ticked_cfg _ _ _).trans hcfg, ticked_lastRaw _ _ _, ?_⟩
    have hnext := hheld.after_tick (u := u) hraw.symm
    rwa [hcfg, ← Nat.succ_mul] at hnext

end

/-- Settles O32: all ticks but the last hold the level for `n - 2` ticks' time, and the last one adopts it. -/
theorem stableLevelIsAdopted : Obligations.StableLevelIsAdopted := by
  unfold Obligations.StableLevelIsAdopted
  intro u lvl n b hn hinterval
  obtain ⟨k, rfl⟩ : ∃ k, n = k + 2 := ⟨n - 2, by omega⟩
  obtain ⟨hcfg, hraw, hheld⟩ := heldFor_iterate_ticked u lvl k b
  change ((ticked u lvl)^[k + 2] b).deb = lvl
  rw [Function.iterate_succ_apply']
  apply hheld.deb_after_tick hraw.symm
  rw [debounceInterval, hcfg, ← Nat.succ_mul]
  exact hinterval

/-! The button commands (R144, R145). -/

/-- Settles O28: BTICK is the tick of `B0` on `btn0`, and O30 says what it makes of the configuration, time and raw level. -/
theorem bTickTicksTheStandaloneButton : Obligations.BTickTicksTheStandaloneButton := by
  unfold Obligations.BTickTicksTheStandaloneButton
  intro s
  obtain ⟨hcfg, ht, -, -, hraw, -⟩ := tickTimeBaseLatchesAndDebounce .b0 s.ports.btn0 s.b0 _ _ rfl
  exact ⟨_, _, rfl, hcfg, ht, hraw, rfl⟩

/-- Settles O29: both commands are `fsm_reset` of their button (R141) and nothing else. -/
theorem buttonResetCommands : Obligations.ButtonResetCommands := by
  unfold Obligations.ButtonResetCommands
  exact fun s => ⟨rfl, rfl⟩

end Sys2Proof.Machine
end

section
/-! Certificates for 41_button.md, the state machine: one evaluation in each state (R134 to R142), and what the event
enables do not reach (R143). -/

namespace Sys2Proof.Machine

open Sys2Proof.Claims

/-! The record of a button event in the statements' words (R292, R293, R295). -/

theorem buttonSrc_toNat (u : ButtonId) : (buttonSrc u).toNat = srcOf u := by
  cases u with
  | b0 | b1 => rfl

theorem ofNat_kind_toNat (k : ButtonEvent) : (BitVec.ofNat 4 k.kind).toNat = k.kind := by
  cases k with
  | _ => rfl

theorem buttonRecord_eq_record (u : ButtonId) (k : ButtonEvent) (arg : BitVec 16) :
    buttonRecord u k arg = record (srcOf u) k.kind arg.toNat := by
  apply BitVec.eq_of_toNat_eq
  rw [← Nat.mod_eq_of_lt (buttonRecord u k arg).isLt, buttonRecord, eventRecord_toNat, buttonSrc_toNat, ofNat_kind_toNat,
    record, BitVec.toNat_ofNat]

/-- The status bits after `emit` of a kind (R293). -/
def statusAfter (b : Button) (k : ButtonEvent) : BitVec 9 :=
  if bitOf b.cfg.evtEn k.kind then setStatus b.evtStatus k.kind else b.evtStatus

/-- `emit` writes nothing of the button but its status bits, and the gated record follows those before it (R293). -/
theorem emitButton_eq_gated (u : ButtonId) (k : ButtonEvent) (arg : BitVec 16) (b : Button) (ev : List EventWord) :
    emitButton u k arg (b, ev) =
      ({ b with evtStatus := statusAfter b k }, ev ++ gated b.cfg.evtEn (srcOf u) k.kind arg.toNat) := by
  rw [emitButton_eq, buttonRecord_eq_record]
  rfl

/-! The click count as a number (R137, R138, R142). -/

theorem nextClicks_toNat (b : Button) : (nextClicks b).toNat = min (b.nclicks.toNat + 1) 255 := by
  simp only [nextClicks, Config.clickMax, BitVec.toNat_ofNat]
  omega

theorem clickEvent_kind (n : BitVec 8) :
    (clickEvent n).kind = if n.toNat = 1 then 2 else if n.toNat = 2 then 3 else 4 := by
  have hclick : n = 1#8 ↔ n.toNat = 1 := BitVec.toNat_inj.symm
  have hdouble : n = 2#8 ↔ n.toNat = 2 := BitVec.toNat_inj.symm
  simp only [clickEvent, hclick, hdouble]
  split
  · rfl
  · split
    · rfl
    · rfl

/-- The count that ends a sequence before its window does (R142). -/
theorem nclicks_eq_maxClicks_iff (b : Button) :
    b.nclicks = maxClicks b ↔ b.nclicks.toNat = if b.cfg.evtEn.getLsbD 4 then 255 else 2 := by
  rw [← BitVec.toNat_inj, maxClicks_toNat]

/-! The rows of the state machine: what each makes of the button, and the records (R135 to R140). -/

section

variable {u : ButtonId} {e : Nat} {b : Button} {ev : List EventWord}

theorem initIdle_of_due (h : b.idleFired = false ∧ b.cfg.idleMs.toNat ≤ e) :
    initIdle u e (b, ev) =
      ({ b with idleFired := true, evtStatus := statusAfter b .idle }, ev ++ gated b.cfg.evtEn (srcOf u) 8 0) := by
  rw [initIdle, if_pos h, emitButton_eq_gated]
  rfl

theorem initIdle_of_not_due (h : ¬(b.idleFired = false ∧ b.cfg.idleMs.toNat ≤ e)) : initIdle u e (b, ev) = (b, ev) :=
  if_neg h

theorem initPress_of_active (h : b.deb = true) :
    initPress u (b, ev) =
      ({ b with state := .down, entry := b.t, nclicks := 0, evtStatus := statusAfter b .press },
        ev ++ gated b.cfg.evtEn (srcOf u) 0 0) := by
  rw [initPress, if_pos h, emitButton_eq_gated]
  rfl

theorem initPress_of_inactive (h : b.deb = false) : initPress u (b, ev) = (b, ev) :=
  if_neg (Bool.eq_false_iff.mp h)

theorem stepDown_of_inactive (h : b.deb = false) :
    stepDown u e (b, ev) =
      ({ b with state := .up, entry := b.t, hold := BitVec.ofNat 32 e, evtStatus := statusAfter b .release },
        ev ++ gated b.cfg.evtEn (srcOf u) 1 0) := by
  rw [stepDown, if_pos h, emitButton_eq_gated]
  rfl

theorem stepDown_of_long (h : b.deb = true) (hlong : b.cfg.pressMs.toNat < e) :
    stepDown u e (b, ev) =
      ({ b with state := .press, entry := b.t, lastDuring := b.t, evtStatus := statusAfter b .longPressStart },
        ev ++ gated b.cfg.evtEn (srcOf u) 5 0) := by
  rw [stepDown, if_neg (by simp [h]), if_pos hlong, emitButton_eq_gated]
  rfl

theorem stepDown_of_short (h : b.deb = true) (hshort : ¬b.cfg.pressMs.toNat < e) : stepDown u e (b, ev) = (b, ev) := by
  rw [stepDown, if_neg (by simp [h]), if_neg hshort]

theorem stepCount_of_active (h : b.deb = true) :
    stepCount u e (b, ev) = ({ b with state := .down, entry := b.t }, ev) := if_pos h

theorem stepCount_of_end (h : b.deb = false)
    (hend : b.cfg.clickMs.toNat ≤ e ∨ b.nclicks.toNat = if b.cfg.evtEn.getLsbD 4 then 255 else 2) :
    stepCount u e (b, ev) =
      (fsmReset { b with evtStatus := statusAfter b (clickEvent b.nclicks) },
        ev ++ gated b.cfg.evtEn (srcOf u) (clickEvent b.nclicks).kind b.nclicks.toNat) := by
  rw [← nclicks_eq_maxClicks_iff] at hend
  rw [stepCount, if_neg (by simp [h]), if_pos hend, emitButton_eq_gated, BitVec.toNat_setWidth_of_le (by decide)]

theorem stepCount_of_open (h : b.deb = false)
    (hopen : ¬(b.cfg.clickMs.toNat ≤ e ∨ b.nclicks.toNat = if b.cfg.evtEn.getLsbD 4 then 255 else 2)) :
    stepCount u e (b, ev) = (b, ev) := by
  rw [← nclicks_eq_maxClicks_iff] at hopen
  rw [stepCount, if_neg (by simp [h]), if_neg hopen]

theorem stepPress_of_inactive (h : b.deb = false) :
    stepPress u (b, ev) = ({ b with state := .pressEnd, entry := b.t }, ev) := if_pos h

theorem stepPress_of_due (h : b.deb = true) (hdue : b.cfg.duringMs.toNat ≤ since b b.lastDuring) :
    stepPress u (b, ev) =
      ({ b with lastDuring := b.t, evtStatus := statusAfter b .duringLongPress },
        ev ++ gated b.cfg.evtEn (srcOf u) 7 0) := by
  rw [stepPress, if_neg (by simp [h]), if_pos hdue, emitButton_eq_gated]
  rfl

theorem stepPress_of_not_due (h : b.deb = true) (hdue : ¬b.cfg.duringMs.toNat ≤ since b b.lastDuring) :
    stepPress u (b, ev) = (b, ev) := by
  rw [stepPress, if_neg (by simp [h]), if_neg hdue]

theorem stepPressEnd_eq (u : ButtonId) (b : Button) (ev : List EventWord) :
    stepPressEnd u (b, ev) =
      (fsmReset { b with evtStatus := statusAfter b .longPressStop }, ev ++ gated b.cfg.evtEn (srcOf u) 6 0) := by
  rw [stepPressEnd, emitButton_eq_gated]
  rfl

theorem evaluate_of_init (h : b.state = .init) : evaluate u b = stepInit u (since b b.entry) (b, []) := by
  rw [evaluate, h]

theorem evaluate_of_down (h : b.state = .down) : evaluate u b = stepDown u (since b b.entry) (b, []) := by
  rw [evaluate, h]

theorem evaluate_of_up (h : b.state = .up) : evaluate u b = stepUp (b, []) := by
  rw [evaluate, h]

theorem evaluate_of_count (h : b.state = .count) : evaluate u b = stepCount u (since b b.entry) (b, []) := by
  rw [evaluate, h]

theorem evaluate_of_press (h : b.state = .press) : evaluate u b = stepPress u (b, []) := by
  rw [evaluate, h]

theorem evaluate_of_pressEnd (h : b.state = .pressEnd) : evaluate u b = stepPressEnd u (b, []) := by
  rw [evaluate, h]

end

/-! A tick in each state: the rows, on the button steps 1 to 3 leave. -/

/-- The age of a stamp as the state machine sees it, by the time the tick leaves. -/
theorem since_preTick {u : ButtonId} {lvl : Bool} {b b' : Button} {ev : List EventWord}
    (h : buttonTick u lvl b = (b', ev)) (stamp : Millis) : since (preTick lvl b) stamp = (b'.t - stamp).toNat := by
  rw [since, buttonTick_t h]

/-- Both outcomes of the idle row at once, by its condition (R135). -/
theorem initIdle_eq_ite (u : ButtonId) (e : Nat) (b : Button) :
    let due := !b.idleFired && decide (b.cfg.idleMs.toNat ≤ e)
    ∃ st, initIdle u e (b, []) =
      ({ b with idleFired := b.idleFired || due, evtStatus := st },
        if due then gated b.cfg.evtEn (srcOf u) 8 0 else []) := by
  by_cases hdue : b.idleFired = false ∧ b.cfg.idleMs.toNat ≤ e
  · rw [initIdle_of_due hdue]
    exact ⟨_, by simp [hdue]; rfl⟩
  · have hnot : (!b.idleFired && decide (b.cfg.idleMs.toNat ≤ e)) = false := by simpa using hdue
    rw [initIdle_of_not_due hdue]
    exact ⟨b.evtStatus, by simp [hnot]⟩

/-- Settles O33: the idle row, then the press row on what it left. -/
theorem tickInInit : Obligations.TickInInit := by
  unfold Obligations.TickInInit
  intro u lvl b b' ev h hs
  have hstep := (evaluate_of_init (u := u) ((preTick_state lvl b).trans hs)).symm.trans h
  obtain ⟨st, hidle⟩ := initIdle_eq_ite u (since (preTick lvl b) (preTick lvl b).entry) (preTick lvl b)
  rw [stepInit, hidle] at hstep
  rw [buttonTick_deb h, ← since_preTick h]
  cases hdeb : (preTick lvl b).deb with
  | true =>
    rw [initPress_of_active (by exact hdeb)] at hstep
    obtain ⟨rfl, rfl⟩ := Prod.mk.inj hstep
    simp
  | false =>
    rw [initPress_of_inactive (by exact hdeb)] at hstep
    obtain ⟨rfl, rfl⟩ := Prod.mk.inj hstep
    simp [hs]

/-- Settles O35: the state is left on every tick. -/
theorem tickInUp : Obligations.TickInUp := by
  unfold Obligations.TickInUp
  intro u lvl b b' ev h hs
  have hstep := (evaluate_of_up (u := u) ((preTick_state lvl b).trans hs)).symm.trans h
  obtain ⟨rfl, rfl⟩ := Prod.mk.inj hstep
  have hdouble : nextClicks (preTick lvl b) = 2#8 ↔ (nextClicks (preTick lvl b)).toNat = 2 := BitVec.toNat_inj.symm
  simp [hdouble, nextClicks_toNat]

/-- Settles O36: the rows in order. -/
theorem tickInCount : Obligations.TickInCount := by
  unfold Obligations.TickInCount
  intro u lvl b b' ev h hs
  have hstep := (evaluate_of_count (u := u) ((preTick_state lvl b).trans hs)).symm.trans h
  dsimp only
  rw [buttonTick_deb h, ← since_preTick h]
  cases hdeb : (preTick lvl b).deb with
  | true =>
    rw [stepCount_of_active hdeb] at hstep
    obtain ⟨rfl, rfl⟩ := Prod.mk.inj hstep
    simp
  | false =>
    by_cases hend : b.cfg.clickMs.toNat ≤ since (preTick lvl b) b.entry ∨
        b.nclicks.toNat = if b.cfg.evtEn.getLsbD 4 then 255 else 2
    · rw [stepCount_of_end hdeb (by simpa using hend)] at hstep
      rw [if_neg Bool.false_ne_true, if_pos hend]
      obtain ⟨rfl, rfl⟩ := Prod.mk.inj hstep
      simp [clickEvent_kind]
    · rw [stepCount_of_open hdeb (by simpa using hend)] at hstep
      rw [if_neg Bool.false_ne_true, if_neg hend]
      obtain ⟨rfl, rfl⟩ := Prod.mk.inj hstep
      simp [hs]

/-- Settles O37: the rows in order. -/
theorem tickInPress : Obligations.TickInPress := by
  unfold Obligations.TickInPress
  intro u lvl b b' ev h hs
  have hstep := (evaluate_of_press (u := u) ((preTick_state lvl b).trans hs)).symm.trans h
  rw [buttonTick_deb h, ← since_preTick h]
  cases hdeb : (preTick lvl b).deb with
  | false =>
    rw [stepPress_of_inactive hdeb] at hstep
    obtain ⟨rfl, rfl⟩ := Prod.mk.inj hstep
    simp
  | true =>
    by_cases hdue : b.cfg.duringMs.toNat ≤ since (preTick lvl b) b.lastDuring
    · rw [stepPress_of_due hdeb (by simpa using hdue)] at hstep
      obtain ⟨rfl, rfl⟩ := Prod.mk.inj hstep
      simp [hdue, hs]
    · rw [stepPress_of_not_due hdeb (by simpa using hdue)] at hstep
      obtain ⟨rfl, rfl⟩ := Prod.mk.inj hstep
      simp [hdue, hs]

/-- Settles O38: the one row of the state, which has no condition. -/
theorem tickInPressEnd : Obligations.TickInPressEnd := by
  unfold Obligations.TickInPressEnd
  intro u lvl b b' ev h hs
  have hstep := (evaluate_of_pressEnd (u := u) ((preTick_state lvl b).trans hs)).symm.trans h
  rw [stepPressEnd_eq] at hstep
  obtain ⟨rfl, rfl⟩ := Prod.mk.inj hstep
  simp

/-! The hold duration (R136, R141). -/

section

variable {u : ButtonId} {lvl : Bool} {b b' : Button} {ev : List EventWord} {i : Instr} {s t : State}

/-- Outside Down the hold duration is cleared with the return to Init (R141) or left alone: state by state, from the
statements about a tick there. -/
theorem buttonTick_hold_of_not_down (h : buttonTick u lvl b = (b', ev)) (hs : b.state ≠ .down) :
    b'.hold = if b.state ≠ .init ∧ b'.state = .init then 0 else b.hold := by
  cases hstate : b.state with
  | init =>
    obtain ⟨-, -, -, -, hhold, -⟩ := tickInInit u lvl b b' ev h hstate
    simpa using hhold
  | down => exact absurd hstate hs
  | up =>
    obtain ⟨hnext, -, -, -, -, hhold, -⟩ := tickInUp u lvl b b' ev h hstate
    simpa [hnext] using hhold
  | count =>
    obtain ⟨-, -, hrows⟩ := tickInCount u lvl b b' ev h hstate
    simp only [ite_prop_iff_or] at hrows
    obtain ⟨-, hnext, -, -, -, hhold, -⟩ | ⟨-, ⟨-, hnext, -, -, -, hhold, -⟩ | ⟨-, hnext, -, -, -, hhold, -⟩⟩ := hrows
    all_goals simpa [hnext] using hhold
  | press =>
    obtain ⟨-, -, hhold, -, hrows⟩ := tickInPress u lvl b b' ev h hstate
    simp only [ite_prop_iff_or] at hrows
    obtain ⟨-, hnext, -⟩ | ⟨-, hnext, -⟩ := hrows
    all_goals simpa [hnext] using hhold
  | pressEnd =>
    obtain ⟨hnext, -, -, -, hhold, -⟩ := tickInPressEnd u lvl b b' ev h hstate
    simpa [hnext] using hhold

theorem exec_b0_hold (ht : i ≠ .bTick) (hr : i ≠ .bReset0) (h : exec i s = .next t) : t.b0.hold = s.b0.hold := by
  cases i with
  | bTick | bReset0 => contradiction
  | _ =>
    cases h
    rfl

theorem exec_b1_hold (ht : i ≠ .jTick) (hr : i ≠ .bReset1) (h : exec i s = .next t) : t.b1.hold = s.b1.hold := by
  cases i with
  | jTick | bReset1 => contradiction
  | _ =>
    cases h
    rfl

end

/-- Settles O34: the tick in Down, the ticks elsewhere, and the operations that are no ticks. -/
theorem tickInDown : Obligations.TickInDown := by
  unfold Obligations.TickInDown
  refine ⟨fun u lvl b b' ev h => ⟨fun hs => ?down, buttonTick_hold_of_not_down h⟩,
    fun _ _ _ h => ⟨fun ht hr => exec_b0_hold ht hr h, fun ht hr => exec_b1_hold ht hr h⟩⟩
  case down =>
    have hstep := (evaluate_of_down (u := u) ((preTick_state lvl b).trans hs)).symm.trans h
    rw [buttonTick_deb h, ← since_preTick h]
    cases hdeb : (preTick lvl b).deb with
    | false =>
      rw [stepDown_of_inactive hdeb] at hstep
      obtain ⟨rfl, rfl⟩ := Prod.mk.inj hstep
      simp [since]
    | true =>
      by_cases hlong : b.cfg.pressMs.toNat < since (preTick lvl b) b.entry
      · rw [stepDown_of_long hdeb (by simpa using hlong)] at hstep
        obtain ⟨rfl, rfl⟩ := Prod.mk.inj hstep
        simp [hlong]
      · rw [stepDown_of_short hdeb (by simpa using hlong)] at hstep
        obtain ⟨rfl, rfl⟩ := Prod.mk.inj hstep
        simp [hlong, hs]

/-! Which kinds are enabled (R142, R143). -/

/-- The button with other event enables and other status bits. -/
def Button.withEvents (b : Button) (en st : BitVec 9) : Button :=
  { b with cfg := { b.cfg with evtEn := en }, evtStatus := st }

theorem preTick_withEvents (lvl : Bool) (b : Button) (en st : BitVec 9) :
    preTick lvl (b.withEvents en st) = (preTick lvl b).withEvents en st := by
  simp [preTick, debounce, latchEdges, advanceTime, since, debounceInterval, Button.withEvents]

section

variable {u : ButtonId} {b : Button} {en st : BitVec 9}

/-- The button `b₂` is `b` but for the event enables `en` and the status bits. -/
def SameButEvents (en : BitVec 9) (b b₂ : Button) : Prop := ∃ st, b₂ = b.withEvents en st

/-- The idle row of Init, whose records stand before those of the press row. -/
theorem initIdle_withEvents (e : Nat) :
    SameButEvents en (initIdle u e (b, [])).1 (initIdle u e (b.withEvents en st, [])).1 := by
  by_cases hdue : b.idleFired = false ∧ b.cfg.idleMs.toNat ≤ e
  · rw [initIdle_of_due hdue, initIdle_of_due (b := b.withEvents en st) hdue]
    exact ⟨_, rfl⟩
  · rw [initIdle_of_not_due hdue, initIdle_of_not_due (b := b.withEvents en st) hdue]
    exact ⟨st, rfl⟩

theorem initPress_withEvents (ev ev₂ : List EventWord) :
    SameButEvents en (initPress u (b, ev)).1 (initPress u (b.withEvents en st, ev₂)).1 := by
  cases hdeb : b.deb with
  | true =>
    rw [initPress_of_active hdeb, initPress_of_active (b := b.withEvents en st) hdeb]
    exact ⟨_, rfl⟩
  | false =>
    rw [initPress_of_inactive hdeb, initPress_of_inactive (b := b.withEvents en st) hdeb]
    exact ⟨st, rfl⟩

theorem stepInit_withEvents (e : Nat) :
    SameButEvents en (stepInit u e (b, [])).1 (stepInit u e (b.withEvents en st, [])).1 := by
  obtain ⟨st₂, hidle⟩ := initIdle_withEvents (u := u) (b := b) (en := en) (st := st) e
  have hpress := initPress_withEvents (u := u) (b := (initIdle u e (b, [])).1) (en := en) (st := st₂)
    (initIdle u e (b, [])).2 (initIdle u e (b.withEvents en st, [])).2
  rwa [← hidle] at hpress

theorem stepDown_withEvents (e : Nat) :
    SameButEvents en (stepDown u e (b, [])).1 (stepDown u e (b.withEvents en st, [])).1 := by
  cases hdeb : b.deb with
  | false =>
    rw [stepDown_of_inactive hdeb, stepDown_of_inactive (b := b.withEvents en st) hdeb]
    exact ⟨_, rfl⟩
  | true =>
    by_cases hlong : b.cfg.pressMs.toNat < e
    · rw [stepDown_of_long hdeb hlong, stepDown_of_long (b := b.withEvents en st) hdeb hlong]
      exact ⟨_, rfl⟩
    · rw [stepDown_of_short hdeb hlong, stepDown_of_short (b := b.withEvents en st) hdeb hlong]
      exact ⟨st, rfl⟩

/-- The one place where an enable bit reaches the state machine: MULTICLICK's in `max_clicks` (R142). -/
theorem stepCount_withEvents (hen : en.getLsbD 4 = b.cfg.evtEn.getLsbD 4) (e : Nat) :
    SameButEvents en (stepCount u e (b, [])).1 (stepCount u e (b.withEvents en st, [])).1 := by
  cases hdeb : b.deb with
  | true =>
    rw [stepCount_of_active hdeb, stepCount_of_active (b := b.withEvents en st) hdeb]
    exact ⟨st, rfl⟩
  | false =>
    by_cases hend : b.cfg.clickMs.toNat ≤ e ∨ b.nclicks.toNat = if b.cfg.evtEn.getLsbD 4 then 255 else 2
    · rw [stepCount_of_end hdeb hend, stepCount_of_end (b := b.withEvents en st) hdeb (hen ▸ hend)]
      exact ⟨_, rfl⟩
    · rw [stepCount_of_open hdeb hend, stepCount_of_open (b := b.withEvents en st) hdeb (hen ▸ hend)]
      exact ⟨st, rfl⟩

theorem stepPress_withEvents : SameButEvents en (stepPress u (b, [])).1 (stepPress u (b.withEvents en st, [])).1 := by
  cases hdeb : b.deb with
  | false =>
    rw [stepPress_of_inactive hdeb, stepPress_of_inactive (b := b.withEvents en st) hdeb]
    exact ⟨st, rfl⟩
  | true =>
    by_cases hdue : b.cfg.duringMs.toNat ≤ since b b.lastDuring
    · rw [stepPress_of_due hdeb hdue, stepPress_of_due (b := b.withEvents en st) hdeb hdue]
      exact ⟨_, rfl⟩
    · rw [stepPress_of_not_due hdeb hdue, stepPress_of_not_due (b := b.withEvents en st) hdeb hdue]
      exact ⟨st, rfl⟩

theorem evaluate_withEvents (hen : en.getLsbD 4 = b.cfg.evtEn.getLsbD 4) :
    SameButEvents en (evaluate u b).1 (evaluate u (b.withEvents en st)).1 := by
  cases hs : b.state with
  | init =>
    rw [evaluate_of_init hs, evaluate_of_init (b := b.withEvents en st) hs]
    exact stepInit_withEvents _
  | down =>
    rw [evaluate_of_down hs, evaluate_of_down (b := b.withEvents en st) hs]
    exact stepDown_withEvents _
  | up =>
    rw [evaluate_of_up hs, evaluate_of_up (b := b.withEvents en st) hs]
    exact ⟨st, rfl⟩
  | count =>
    rw [evaluate_of_count hs, evaluate_of_count (b := b.withEvents en st) hs]
    exact stepCount_withEvents hen _
  | press =>
    rw [evaluate_of_press hs, evaluate_of_press (b := b.withEvents en st) hs]
    exact stepPress_withEvents
  | pressEnd =>
    rw [evaluate_of_pressEnd hs, evaluate_of_pressEnd (b := b.withEvents en st) hs, stepPressEnd_eq, stepPressEnd_eq]
    exact ⟨_, rfl⟩

end

/-- Settles O40: steps 1 to 3 do not read the enables, and the evaluation reads only the MULTICLICK bit. -/
theorem buttonStateIgnoresEventEnables : Obligations.ButtonStateIgnoresEventEnables := by
  unfold Obligations.ButtonStateIgnoresEventEnables
  intro u lvl b en st hen b₂
  obtain ⟨st₂, htick⟩ : SameButEvents en (buttonTick u lvl b).1 (buttonTick u lvl b₂).1 := by
    rw [buttonTick_eq, buttonTick_eq, show b₂ = b.withEvents en st from rfl, preTick_withEvents]
    exact evaluate_withEvents (by simpa using hen)
  rw [htick]
  rfl

end Sys2Proof.Machine
end

section
/-! Certificates for 42_axis.md, the calibration mapping: the effective calibration and its reads (R172, R258 to R263), and
normalization (R173). -/

namespace Sys2Proof.Machine

open Sys2Proof.Claims

/-! The effective calibration (R172). -/

/-- The effective ends are the stored ends, put in order. -/
theorem calMin_calMax_eq (c : Calib) :
    calMin c = c.min.toNat ∧ calMax c = c.max.toNat ∨ calMin c = c.max.toNat ∧ calMax c = c.min.toNat :=
  (le_total c.min.toNat c.max.toNat).imp (fun h => ⟨min_eq_left h, max_eq_right h⟩)
    (fun h => ⟨min_eq_right h, max_eq_left h⟩)

theorem calCenter_range (c : Calib) : calMin c ≤ calCenter c ∧ calCenter c ≤ calMax c := by
  have hends : calMin c ≤ calMax c := min_le_max
  unfold calCenter
  split
  · assumption
  · omega

theorem calMax_lt (c : Calib) : calMax c < 2 ^ 12 := max_lt c.min.isLt c.max.isLt

/-- Settles O18: each register reads one of the three effective values, which fit into a word. -/
theorem calibrationReadsAreEffective : Obligations.CalibrationReadsAreEffective := by
  unfold Obligations.CalibrationReadsAreEffective
  intro s effective
  have reads (i : Instr) (n : Nat) (c : Calib) (hn : n ≤ calMax c) (h : exec i s = returnData (BitVec.ofNat 32 n) s) :
      ReadsNat i s n :=
    have hfits : n < 2 ^ 32 := (hn.trans_lt (calMax_lt c)).trans (by decide)
    readsNat_of_returnData ((BitVec.toNat_ofNat n 32).trans (Nat.mod_eq_of_lt hfits)) h
  have axis (lo ce hi : Instr) (c : Calib) (hlo : exec lo s = returnData (BitVec.ofNat 32 (calMin c)) s)
      (hce : exec ce s = returnData (BitVec.ofNat 32 (calCenter c)) s)
      (hhi : exec hi s = returnData (BitVec.ofNat 32 (calMax c)) s) : effective lo ce hi c := by
    obtain ⟨hmin, hmax⟩ := calCenter_range c
    exact ⟨calMin c, calCenter c, calMax c, reads lo _ c (hmin.trans hmax) hlo, reads ce _ c hmax hce,
      reads hi _ c le_rfl hhi, hmin, hmax, calMin_calMax_eq c, fun h => if_pos h, fun h => if_neg h⟩
  exact ⟨axis _ _ _ _ rfl rfl rfl, axis _ _ _ _ rfl rfl rfl⟩

/-! Normalization (R173): on either side of the centre it is the distance from the centre, scaled by the span of that side,
with the sign of the side. -/

/-- The distance `d` from the centre in units of `span / ONE`, rounded down, at most `ONE`; a zero span counts as 1. -/
def scaledDistance (d span : Nat) : Nat := min (d * 16384 / max span 1) 16384

theorem scaledDistance_le (d span : Nat) : scaledDistance d span ≤ 16384 := min_le_right _ _

theorem scaledDistance_mono {d d' : Nat} (h : d ≤ d') (span : Nat) : scaledDistance d span ≤ scaledDistance d' span :=
  min_le_min_right _ (Nat.div_le_div_right (Nat.mul_le_mul_right _ h))

theorem scaledDistance_zero (span : Nat) : scaledDistance 0 span = 0 := by simp [scaledDistance]

theorem scaledDistance_of_le {d span : Nat} (h0 : 0 < span) (h : d ≤ span) :
    scaledDistance d span = d * 16384 / span := by
  have hq : d * 16384 / span ≤ 16384 := Nat.div_le_of_le_mul (Nat.mul_le_mul_right _ h)
  rw [scaledDistance, max_eq_left h0, min_eq_left hq]

theorem scaledDistance_of_ge {d span : Nat} (h0 : 0 < d) (h : span ≤ d) : scaledDistance d span = 16384 := by
  refine min_eq_right ((Nat.le_div_iff_mul_le (by omega)).mpr ?_)
  rw [mul_comm]
  exact Nat.mul_le_mul_right _ (max_le h h0)

theorem guardSpan_sub {a b : Nat} (h : a ≤ b) : guardSpan ((b : Int) - a) = (max (b - a) 1 : Nat) := by
  unfold guardSpan
  split <;> omega

/-- The quotient of R173 is a quotient of natural numbers. -/
theorem tdiv_guardSpan {a b p q : Nat} (hab : a ≤ b) (hpq : p ≤ q) :
    tdiv (((b : Int) - a) * Config.one) (guardSpan ((q : Int) - p)) = ((b - a) * 16384 / max (q - p) 1 : Nat) := by
  have hnum : ((b : Int) - a) * Config.one = ((b - a) * 16384 : Nat) := by simp [Config.one]; omega
  rw [hnum, guardSpan_sub hpq, tdiv_of_nonneg (Int.natCast_nonneg _), Int.natCast_div]

/-- A magnitude is cut at the top only, on either side. -/
theorem clamp_natCast (q : Nat) :
    clamp q (-Config.one) Config.one = (min q 16384 : Nat) ∧
      clamp (-(q : Int)) (-Config.one) Config.one = -((min q 16384 : Nat) : Int) := by
  simp only [clamp, Config.one]
  omega

theorem normalize_of_center_le {raw : Raw} {c : Calib} (h : calCenter c ≤ raw.toNat) :
    normalize raw c = scaledDistance (raw.toNat - calCenter c) (calMax c - calCenter c) := by
  rw [normalize, normalizeRaw, if_pos (by exact_mod_cast h), tdiv_guardSpan h (calCenter_range c).2]
  exact (clamp_natCast _).1

theorem normalize_of_le_center {raw : Raw} {c : Calib} (h : raw.toNat ≤ calCenter c) :
    normalize raw c = -(scaledDistance (calCenter c - raw.toNat) (calCenter c - calMin c) : Int) := by
  rcases h.lt_or_eq with hlt | heq
  · rw [normalize, normalizeRaw, if_neg (by omega), tdiv_guardSpan h (calCenter_range c).1]
    exact (clamp_natCast _).2
  · rw [normalize_of_center_le heq.ge, heq, Nat.sub_self, scaledDistance_zero, scaledDistance_zero]
    rfl

/-- Normalization rises with the sample, through the centre as well. -/
theorem normalize_mono (c : Calib) {raw raw' : Raw} (h : raw.toNat ≤ raw'.toNat) :
    normalize raw c ≤ normalize raw' c := by
  rcases le_total (calCenter c) raw.toNat with hr | hr
  · rw [normalize_of_center_le hr, normalize_of_center_le (hr.trans h)]
    exact_mod_cast scaledDistance_mono (Nat.sub_le_sub_right h _) _
  · rcases le_total (calCenter c) raw'.toNat with hr' | hr'
    · rw [normalize_of_le_center hr, normalize_of_center_le hr']
      omega
    · rw [normalize_of_le_center hr, normalize_of_le_center hr']
      exact neg_le_neg (by exact_mod_cast scaledDistance_mono (Nat.sub_le_sub_left h _) _)

/-- Settles O43: each clause is a fact about the scaled distance on the sample's side of the centre. -/
theorem normalizationIsBoundedAndMonotone : Obligations.NormalizationIsBoundedAndMonotone := by
  unfold Obligations.NormalizationIsBoundedAndMonotone
  intro c raw
  obtain ⟨hmin, hmax⟩ := calCenter_range c
  have top (h : calCenter c < raw.toNat) (hend : calMax c ≤ raw.toNat) : normalize raw c = 16384 := by
    rw [normalize_of_center_le h.le, scaledDistance_of_ge (by omega) (by omega)]
    rfl
  have bottom (h : raw.toNat < calCenter c) (hend : raw.toNat ≤ calMin c) : normalize raw c = -16384 := by
    rw [normalize_of_le_center h.le, scaledDistance_of_ge (by omega) (by omega)]
    rfl
  refine ⟨abs_le.mp (abs_normalize_le raw c), fun raw' => normalize_mono c, ?center, ?upperEnd, ?lowerEnd, ?above, ?below,
    ?zeroSpanAbove, ?zeroSpanBelow⟩
  case center =>
    intro h
    rw [normalize_of_center_le h.ge, h, Nat.sub_self, scaledDistance_zero]
    rfl
  case upperEnd => exact fun hspan hend => top (by omega) hend
  case lowerEnd => exact fun hspan hend => bottom (by omega) hend
  case above =>
    intro hlo hhi hspan
    rw [normalize_of_center_le hlo, scaledDistance_of_le (by omega) (by omega)]
  case below =>
    intro hlo hhi hspan
    rw [normalize_of_le_center hhi, scaledDistance_of_le (by omega) (by omega)]
  case zeroSpanAbove => exact fun hspan h => top h (by omega)
  case zeroSpanBelow => exact fun hspan h => bottom h (by omega)

end Sys2Proof.Machine
end

section
/-! Certificates for 42_axis.md, the filter and the deadzone (R175 to R177), and the axis path and polar form of JTICK (R170,
R174, R178, R190, R193). -/

namespace Sys2Proof.Machine

open Sys2Proof.Claims

/-! The smoothing filter (R175). -/

/-- The filter step, written with the integers' truncating division. -/
theorem smooth_eq (alpha : Nat) (x f : Int) :
    smooth alpha x f = Int.tdiv ((alpha : Int) * x + (16384 - (alpha : Int)) * f) 16384 := tdiv_eq _ _

theorem smooth_neg (alpha : Nat) (x f : Int) : smooth alpha (-x) (-f) = -smooth alpha x f := by
  rw [smooth_eq, smooth_eq, ← Int.neg_tdiv]
  congr 1
  ring

/-- At rest the weighted distance from the sample is what the truncation drops, less than `ONE`. -/
theorem abs_lt_of_smooth_eq_self {alpha : Nat} {x f : Int} (h : smooth alpha x f = f) :
    (alpha : Int) * |x - f| < 16384 := by
  have hsum : (alpha : Int) * x + (16384 - (alpha : Int)) * f = alpha * (x - f) + 16384 * f := by ring
  have hdrop : Int.tmod (alpha * (x - f) + 16384 * f) 16384 = alpha * (x - f) := by
    have hdiv := Int.tmod_add_mul_tdiv (alpha * (x - f) + 16384 * f) 16384
    rw [smooth_eq, hsum] at h
    rw [h] at hdiv
    omega
  rw [← Nat.abs_cast alpha, ← abs_mul, ← hdrop]
  exact abs_lt.mpr ⟨Int.lt_tmod_of_pos _ (by decide), Int.tmod_lt_of_pos _ (by decide)⟩

/-- Settles O44: the filter step is a weighted mean, truncated; the end weights leave one of its terms. -/
theorem smoothingFilterProperties : Obligations.SmoothingFilterProperties := by
  unfold Obligations.SmoothingFilterProperties
  intro alpha x f ha
  refine ⟨fun hx hf => abs_smooth_le ha hx hf, ?takes, ?freezes, smooth_neg alpha x f, abs_lt_of_smooth_eq_self⟩
  case takes => simp [smooth_eq]
  case freezes => simp [smooth_eq]

/-! The deadzone (R176, R177). -/

/-- The length of a vector is the only number with its defining property (R10). -/
theorem vectorLength_unique {x y : Int} {r : Nat} (hlo : (r : Int) * r ≤ x * x + y * y)
    (hhi : x * x + y * y < ((r : Int) + 1) * (r + 1)) : vectorLength x y = r := by
  have hnn : 0 ≤ x * x + y * y := add_nonneg (mul_self_nonneg x) (mul_self_nonneg y)
  exact isqrt_unique (by zify [Int.toNat_of_nonneg hnn]; exact hlo) (by zify [Int.toNat_of_nonneg hnn]; exact hhi)

theorem deadzone_of_le {dz : Nat} {fx fy : Int} (h : vectorLength fx fy ≤ dz) : deadzone dz fx fy = (0, 0) := if_pos h

/-- Outside the radius, written with the integers' truncating division. -/
theorem deadzone_of_lt {dz : Nat} {fx fy : Int} (h : dz < vectorLength fx fy) :
    deadzone dz fx fy =
      (Int.tdiv (fx * rescaled dz (vectorLength fx fy)) (vectorLength fx fy),
        Int.tdiv (fy * rescaled dz (vectorLength fx fy)) (vectorLength fx fy)) := by
  rw [← tdiv_eq, ← tdiv_eq]
  exact if_neg h.not_ge

theorem rescaled_of_lt {dz r : Int} (h : dz < r) : rescaled dz r = min ((r - dz) * 16384 / (16384 - dz)) 16384 :=
  congrArg (min · 16384) (tdiv_of_nonneg (by simp only [Config.one]; omega))

/-- A rescaled coordinate keeps its sign or is 0. -/
theorem tdiv_mul_self_nonneg {m r : Int} (hm : 0 ≤ m) (hr : 0 ≤ r) (f : Int) : 0 ≤ Int.tdiv (f * m) r * f := by
  rcases le_total 0 f with hf | hf
  · exact mul_nonneg (Int.tdiv_nonneg (mul_nonneg hf hm) hr) hf
  · rw [← neg_mul_neg, ← Int.neg_tdiv, ← neg_mul]
    exact mul_nonneg (Int.tdiv_nonneg (mul_nonneg (by omega) hm) hr) (by omega)

/-- Both coordinates of the deadzone's output keep their sign or are 0 (R177). -/
theorem deadzone_signs {dz : Nat} (hdz : dz < 16384) (fx fy : Int) :
    0 ≤ (deadzone dz fx fy).1 * fx ∧ 0 ≤ (deadzone dz fx fy).2 * fy ∧ (fx = 0 → (deadzone dz fx fy).1 = 0) ∧
      (fy = 0 → (deadzone dz fx fy).2 = 0) := by
  rcases le_or_gt (vectorLength fx fy) dz with hle | hlt
  · simp [deadzone_of_le hle]
  · obtain ⟨hm, -, -⟩ := rescaled_range (dz := dz) (r := vectorLength fx fy) (by omega) (by omega) (by omega)
    rw [deadzone_of_lt hlt]
    exact ⟨tdiv_mul_self_nonneg hm (by omega) fx, tdiv_mul_self_nonneg hm (by omega) fy, fun h => by simp [h],
      fun h => by simp [h]⟩

/-- Settles O45: `r` is the length of the vector, so the output is what the two branches of R176 say; its bounds are those of
its length. -/
theorem deadzoneOutputIsBounded : Obligations.DeadzoneOutputIsBounded := by
  unfold Obligations.DeadzoneOutputIsBounded
  intro dz r fx fy hdz hlo hhi n m
  obtain rfl := vectorLength_unique hlo hhi
  have hlen : vectorLength n.1 n.2 ≤ 16384 := vectorLength_deadzone_le (by omega) fx fy
  obtain ⟨hx, hy⟩ := abs_le_vectorLength n.1 n.2
  refine ⟨deadzone_of_le, ?outside, by omega, by omega, ?length, deadzone_signs (by omega) fx fy⟩
  case outside =>
    intro h
    rw [show m = rescaled dz (vectorLength fx fy) from (rescaled_of_lt (by omega)).symm]
    exact deadzone_of_lt h
  case length =>
    calc n.1 * n.1 + n.2 * n.2 = n.1 ^ 2 + n.2 ^ 2 := by ring
      _ < ((vectorLength n.1 n.2 : Int) + 1) ^ 2 := (vectorLength_spec n.1 n.2).2
      _ ≤ (16384 + 1) ^ 2 := by gcongr; exact_mod_cast hlen
      _ = 16385 * 16385 := by norm_num

/-! The axis path of JTICK (R170, R174, R175, R178). -/

theorem invert_eq (inv : Bool) (v : Int) : invert inv v = (if inv then -1 else 1) * v := by
  cases inv <;> simp [invert]

/-- From a legal axis state the filter state is stored without loss (R175, R178). -/
theorem axisFilter_toInt {a : Axis} (h : a.Inv) (p : Raw × Raw) :
    (axisFilter p a).fx.toInt = smooth a.cfg.alpha.toNat (invert a.cfg.invX (normalize p.1 a.cfg.calX)) a.fx.toInt ∧
      (axisFilter p a).fy.toInt = smooth a.cfg.alpha.toNat (invert a.cfg.invY (normalize p.2 a.cfg.calY)) a.fy.toInt := by
  have stored (inv : Bool) (raw : Raw) (c : Calib) {f : Coord} (hf : Coord.InRange f) :
      (coord (smooth a.cfg.alpha.toNat (invert inv (normalize raw c)) f.toInt)).toInt =
        smooth a.cfg.alpha.toNat (invert inv (normalize raw c)) f.toInt :=
    (coord_inRange (abs_smooth_le h.alpha_le ((abs_invert inv _).trans_le (abs_normalize_le raw c)) hf.abs_toInt_le)).1
  exact ⟨stored _ _ _ h.fx_range, stored _ _ _ h.fy_range⟩

/-- Settles O42: JTICK stores the axis step of the logical pair, and each element holds its value without loss. -/
theorem jTickAxisPath : Obligations.JTickAxisPath := by
  unfold Obligations.JTickAxisPath
  intro s h
  obtain ⟨hrawX, hrawY⟩ := Prod.ext_iff.mp (axisSample_toNat s.ax.cfg (s.ports.adcX, s.ports.adcY))
  obtain ⟨hfx, hfy⟩ := axisFilter_toInt h (axisSample s.ax.cfg (s.ports.adcX, s.ports.adcY))
  obtain ⟨hnx, hny⟩ := axisDeadzone_toInt (axisFilter (axisSample s.ax.cfg (s.ports.adcX, s.ports.adcY)) s.ax)
  rw [smooth_eq, invert_eq] at hfx hfy
  exact ⟨_, rfl, rfl, hrawX, hrawY, hfx, hfy, Prod.ext hnx hny⟩

/-! The polar form of JTICK (R190, R193). -/

/-- `k` more binary digits scale what is found so far by `2^k` and add less than that. -/
theorem angleDigits_lt (k : Nat) (x y : Int) (acc : Nat) : angleDigits k x y acc < (acc + 1) * 2 ^ k := by
  induction k generalizing x y acc with
  | zero => simp [angleDigits]
  | succ k ih =>
    unfold angleDigits
    refine (ih _ _ _).trans_le ?_
    rw [pow_succ', ← mul_assoc]
    exact Nat.mul_le_mul_right _ (by split <;> omega)

/-- The angle is less than the full turn (R193). -/
theorem angleBam_lt (x y : Int) : angleBam x y < 2 ^ 16 := by
  unfold angleBam
  split
  · decide
  · simpa using angleDigits_lt 16 x y 0

/-- The event rules leave the polar form as R190 and R193 make it of the vector. -/
theorem directionStep_polar (now : Micros) (nx ny : Coord) (d : DirEngine) :
    (directionStep now nx ny d).1.mag = BitVec.ofNat 15 (vectorLength nx.toInt ny.toInt) ∧
      (directionStep now nx ny d).1.ang = BitVec.ofNat 16 (angleBam nx.toInt ny.toInt) := by
  obtain ⟨-, hmag, hang, -⟩ := directionEvents_frame (tiltStarts (polar nx.toInt ny.toInt d))
    (tiltStops (polar nx.toInt ny.toInt d)) now nx ny
    (decideDirection nx.toInt ny.toInt (decideTilt (polar nx.toInt ny.toInt d)))
  exact ⟨hmag, hang⟩

/-- Settles O46: the length and the angle fit into their elements. -/
theorem polarFormOfTheVector : Obligations.PolarFormOfTheVector := by
  unfold Obligations.PolarFormOfTheVector
  intro s
  refine ⟨_, rfl, ?_⟩
  have hlen : vectorLength (joyAxis s).nx.toInt (joyAxis s).ny.toInt ≤ 16384 := vectorLength_axisStep_le _ s.ax
  obtain ⟨hmag, hang⟩ := directionStep_polar (nowUs (updateClock s).clk) (joyAxis s).nx (joyAxis s).ny s.de
  have hr : (joyDirection s).1.mag.toNat = vectorLength (joyAxis s).nx.toInt (joyAxis s).ny.toInt := by
    rw [joyDirection, hmag, BitVec.toNat_ofNat, Nat.mod_eq_of_lt (by omega)]
  have ha : (joyDirection s).1.ang.toNat = angleBam (joyAxis s).nx.toInt (joyAxis s).ny.toInt := by
    rw [joyDirection, hang, BitVec.toNat_ofNat, Nat.mod_eq_of_lt (angleBam_lt _ _)]
  obtain ⟨hlo, hhi⟩ := vectorLength_spec (joyAxis s).nx.toInt (joyAxis s).ny.toInt
  simp only [sq] at hlo hhi
  intro r x y
  rw [show r = vectorLength x y from congrArg Nat.cast hr]
  exact ⟨hlo, hhi, by exact_mod_cast hlen, ha⟩

end Sys2Proof.Machine
end

section
/-! Certificates for 43_direction.md, the angle and the octant (R191 to R193, R202). -/

namespace Sys2Proof.Machine

/-! The angle of a vector as a fraction of the full turn (R193). -/

/-- The vector `(x, y)` as a complex number. -/
def vec (x y : Int) : ℂ := (x : ℂ) + (y : ℂ) * Complex.I

theorem vec_re (x y : Int) : (vec x y).re = x := by simp [vec]

theorem vec_im (x y : Int) : (vec x y).im = y := by simp [vec]

theorem vec_ne_zero {x y : Int} (h : x ≠ 0 ∨ y ≠ 0) : vec x y ≠ 0 := by
  simpa [Complex.ext_iff, vec_re, vec_im, imp_iff_not_or] using h

/-- Squaring, which `angleDigits` does to bring the next digit to the front. -/
theorem vec_sq (x y : Int) : vec (x * x - y * y) (2 * x * y) = vec x y * vec x y := by
  apply Complex.ext
  · simp [vec_re, vec_im]
  · simp [vec_re, vec_im]; ring

theorem vec_quarterTurn (x y : Int) : vec (-y) x = Complex.I * vec x y := by
  apply Complex.ext <;> simp [vec_re, vec_im]

theorem sq_ne_zero_of_ne_zero {x y : Int} (h : x ≠ 0 ∨ y ≠ 0) : x * x - y * y ≠ 0 ∨ 2 * x * y ≠ 0 := by
  by_contra! hz
  obtain ⟨hre, him⟩ := hz
  have : vec x y * vec x y = 0 := by rw [← vec_sq, hre, him]; simp [vec]
  exact vec_ne_zero h (mul_self_eq_zero.mp this)

/-- The angle of `(x, y)` counter-clockwise from East, as a fraction of the full turn in `[0, 1)`. -/
noncomputable def turnFraction (x y : Int) : ℝ := Int.fract ((vec x y).arg / (2 * Real.pi))

/-- The fraction depends on the angle modulo the full turn only. -/
theorem turnFraction_of_angle {x y : Int} {θ : ℝ} (h : ((vec x y).arg : Real.Angle) = θ) :
    turnFraction x y = Int.fract (θ / (2 * Real.pi)) := by
  obtain ⟨k, hk⟩ := Real.Angle.angle_eq_iff_two_pi_dvd_sub.mp h
  have : (vec x y).arg / (2 * Real.pi) = θ / (2 * Real.pi) + k := by
    field_simp [Real.pi_ne_zero]
    linarith
  rw [turnFraction, this, Int.fract_add_intCast]

theorem fract_two_mul_fract (a : ℝ) : Int.fract (2 * Int.fract a) = Int.fract (2 * a) := by
  rw [show 2 * Int.fract a = 2 * a - ((2 * ⌊a⌋ : Int) : ℝ) by rw [Int.fract]; push_cast; ring, Int.fract_sub_intCast]

theorem fract_add_fract (a b : ℝ) : Int.fract (Int.fract a + b) = Int.fract (a + b) := by
  rw [show Int.fract a + b = a + b - (⌊a⌋ : ℝ) by rw [Int.fract]; ring, Int.fract_sub_intCast]

/-- Squaring the vector doubles its angle. -/
theorem turnFraction_sq {x y : Int} (h : x ≠ 0 ∨ y ≠ 0) :
    turnFraction (x * x - y * y) (2 * x * y) = Int.fract (2 * turnFraction x y) := by
  have hangle : ((vec (x * x - y * y) (2 * x * y)).arg : Real.Angle) = ((2 * (vec x y).arg : ℝ) : Real.Angle) := by
    rw [vec_sq, Complex.arg_mul_coe_angle (vec_ne_zero h) (vec_ne_zero h), two_mul, Real.Angle.coe_add]
  rw [turnFraction_of_angle hangle, turnFraction, fract_two_mul_fract, mul_div_assoc]

theorem turnFraction_quarterTurn {x y : Int} (h : x ≠ 0 ∨ y ≠ 0) :
    turnFraction (-y) x = Int.fract (turnFraction x y + 1 / 4) := by
  have hangle : ((vec (-y) x).arg : Real.Angle) = (((vec x y).arg + Real.pi / 2 : ℝ) : Real.Angle) := by
    rw [vec_quarterTurn, Complex.arg_mul_coe_angle Complex.I_ne_zero (vec_ne_zero h), Complex.arg_I, add_comm,
      Real.Angle.coe_add]
  rw [turnFraction_of_angle hangle, turnFraction, fract_add_fract]
  congr 1
  field_simp [Real.pi_ne_zero]
  ring

/-- The first binary digit: the second half of the turn is the lower half-plane with the closed west end. -/
theorem half_le_turnFraction_iff (x y : Int) : 1 / 2 ≤ turnFraction x y ↔ y < 0 ∨ (y = 0 ∧ x < 0) := by
  have hpi := Real.pi_pos
  have hlo : -(1 / 2) < (vec x y).arg / (2 * Real.pi) := by
    rw [lt_div_iff₀ (by positivity)]
    linarith [Complex.neg_pi_lt_arg (vec x y)]
  have hhi : (vec x y).arg / (2 * Real.pi) ≤ 1 / 2 := by
    rw [div_le_iff₀ (by positivity)]
    linarith [Complex.arg_le_pi (vec x y)]
  have hneg : (vec x y).arg / (2 * Real.pi) < 0 ↔ y < 0 := by
    rw [div_lt_iff₀ (by positivity), zero_mul, Complex.arg_neg_iff, vec_im, Int.cast_lt_zero]
  have hwest : (vec x y).arg / (2 * Real.pi) = 1 / 2 ↔ y = 0 ∧ x < 0 := by
    rw [div_eq_iff (by positivity), show 1 / 2 * (2 * Real.pi) = Real.pi by ring, Complex.arg_eq_pi_iff, vec_re, vec_im,
      Int.cast_lt_zero, Int.cast_eq_zero, and_comm]
  rw [← hneg, ← hwest, turnFraction]
  generalize (vec x y).arg / (2 * Real.pi) = t at hlo hhi
  rcases lt_or_ge t 0 with h | h
  · have hfract : Int.fract t = t + 1 := Int.fract_eq_iff.mpr ⟨by linarith, by linarith, -1, by push_cast; ring⟩
    rw [hfract]
    exact iff_of_true (by linarith) (.inl h)
  · rw [Int.fract_eq_self.mpr ⟨h, by linarith⟩]
    exact ⟨fun h' => .inr (le_antisymm hhi h'), fun h' => h'.elim (fun h' => absurd h' h.not_gt) Eq.ge⟩

/-! The digits (R193). -/

/-- The digit `angleDigits` takes of a vector. -/
def firstDigit (x y : Int) : Nat := if y < 0 ∨ (y = 0 ∧ x < 0) then 1 else 0

theorem angleDigits_succ (k : Nat) (x y : Int) (acc : Nat) :
    angleDigits (k + 1) x y acc = angleDigits k (x * x - y * y) (2 * x * y) (2 * acc + firstDigit x y) := rfl

theorem floor_two_mul_turnFraction (x y : Int) : ⌊2 * turnFraction x y⌋ = firstDigit x y := by
  have h0 : 0 ≤ turnFraction x y := Int.fract_nonneg _
  have h1 : turnFraction x y < 1 := Int.fract_lt_one _
  rw [Int.floor_eq_iff, firstDigit]
  split
  · have := (half_le_turnFraction_iff x y).mpr ‹_›
    constructor <;> push_cast <;> linarith
  · have := lt_of_not_ge (mt (half_le_turnFraction_iff x y).mp ‹_›)
    constructor <;> push_cast <;> linarith

/-- The angle doubled is the digit taken and the angle of the square, which the next digit is taken of. -/
theorem two_mul_turnFraction {x y : Int} (h : x ≠ 0 ∨ y ≠ 0) :
    2 * turnFraction x y = firstDigit x y + turnFraction (x * x - y * y) (2 * x * y) := by
  have := Int.floor_add_fract (2 * turnFraction x y)
  rw [floor_two_mul_turnFraction, ← turnFraction_sq h] at this
  exact_mod_cast this.symm

/-- `k` digits are the floor of the angle in units of `1/2^k` turn. -/
theorem angleDigits_eq_floor (k : Nat) {x y : Int} (h : x ≠ 0 ∨ y ≠ 0) (acc : Nat) :
    (angleDigits k x y acc : Int) = acc * 2 ^ k + ⌊2 ^ k * turnFraction x y⌋ := by
  induction k generalizing x y acc with
  | zero =>
    have : ⌊turnFraction x y⌋ = 0 := Int.floor_eq_zero_iff.mpr ⟨Int.fract_nonneg _, Int.fract_lt_one _⟩
    simp [angleDigits, this]
  | succ k ih =>
    have hsplit : 2 ^ (k + 1) * turnFraction x y
        = ((firstDigit x y * 2 ^ k : Int) : ℝ) + 2 ^ k * turnFraction (x * x - y * y) (2 * x * y) := by
      rw [pow_succ, mul_assoc, two_mul_turnFraction h]
      push_cast
      ring
    rw [angleDigits_succ, ih (sq_ne_zero_of_ne_zero h), hsplit, Int.floor_intCast_add]
    push_cast
    ring

/-- `angle_bam` is the floor of the angle in units of 1/65536 turn (R193). -/
theorem angleBam_eq_floor {x y : Int} (h : x ≠ 0 ∨ y ≠ 0) : (angleBam x y : Int) = ⌊65536 * turnFraction x y⌋ := by
  rw [angleBam, if_neg (by omega), angleDigits_eq_floor 16 h]
  norm_num

theorem floor_mul_fract {n : Nat} (hn : 0 < n) (a : ℝ) : ⌊n * Int.fract a⌋ = ⌊n * a⌋ % n := by
  have hn' : (0 : ℝ) < n := by exact_mod_cast hn
  have hshift : ⌊n * Int.fract a⌋ = ⌊n * a⌋ - n * ⌊a⌋ := by
    rw [← Int.floor_sub_intCast, Int.fract]
    push_cast
    ring_nf
  have h0 : 0 ≤ ⌊n * Int.fract a⌋ := Int.floor_nonneg.mpr (mul_nonneg hn'.le (Int.fract_nonneg a))
  have h1 : ⌊n * Int.fract a⌋ < n := by
    rw [Int.floor_lt]
    exact_mod_cast mul_lt_of_lt_one_right hn' (Int.fract_lt_one a)
  rw [← Int.emod_eq_of_lt h0 h1, hshift, Int.sub_mul_emod_self_left]

/-- Settles O49: the digits of `angle_bam` are those of the argument's fraction of the turn. -/
theorem angleIsTheFlooredArctangent : Obligations.AngleIsTheFlooredArctangent := by
  unfold Obligations.AngleIsTheFlooredArctangent
  refine ⟨rfl, fun x y h => ?_⟩
  calc (angleBam x y : Int) = ⌊(65536 : Nat) * turnFraction x y⌋ := angleBam_eq_floor h
    _ = ⌊(65536 : Nat) * ((vec x y).arg / (2 * Real.pi))⌋ % (65536 : Nat) := floor_mul_fract (by norm_num) _
    _ = ⌊(vec x y).arg * 65536 / (2 * Real.pi)⌋ % 65536 := by push_cast; ring_nf

/-! The axes and the diagonals (R193). -/

/-- A quarter turn adds a quarter of the 65536 units. -/
theorem angleBam_quarterTurn {x y : Int} (h : x ≠ 0 ∨ y ≠ 0) :
    angleBam (-y) x = (angleBam x y + 16384) % 65536 := by
  have hcast : (angleBam (-y) x : Int) = (angleBam x y + 16384) % 65536 := by
    calc (angleBam (-y) x : Int) = ⌊(65536 : Nat) * Int.fract (turnFraction x y + 1 / 4)⌋ := by
          rw [angleBam_eq_floor (by omega), turnFraction_quarterTurn h]; norm_cast
      _ = ⌊(65536 : Nat) * (turnFraction x y + 1 / 4)⌋ % (65536 : Nat) := floor_mul_fract (by norm_num) _
      _ = ⌊65536 * turnFraction x y + (16384 : Int)⌋ % 65536 := by push_cast; ring_nf
      _ = (angleBam x y + 16384) % 65536 := by rw [Int.floor_add_intCast, angleBam_eq_floor h]
  exact_mod_cast hcast

/-- In the upper half-plane, and on the east end of its edge, the digit is 0. -/
theorem firstDigit_of_upper {x y : Int} (h : 0 < y ∨ y = 0 ∧ 0 < x) : firstDigit x y = 0 := if_neg (by omega)

/-- In the lower half-plane, and on the west end of its edge, the digit is 1. -/
theorem firstDigit_of_lower {x y : Int} (h : y < 0 ∨ y = 0 ∧ x < 0) : firstDigit x y = 1 := if_pos h

/-- East squared is East: no digit is 1. -/
theorem angleDigits_east (k : Nat) {m : Int} (hm : 0 < m) (acc : Nat) : angleDigits k m 0 acc = acc * 2 ^ k := by
  induction k generalizing m acc with
  | zero => simp [angleDigits]
  | succ k ih =>
    have hsq : 0 < m * m := by positivity
    rw [angleDigits_succ, firstDigit_of_upper (.inr ⟨rfl, hm⟩), mul_zero, mul_zero, sub_zero, ih hsq]
    ring

theorem angleBam_east {m : Int} (hm : 0 < m) : angleBam m 0 = 0 := by
  rw [angleBam, if_neg (by omega), angleDigits_east 16 hm, zero_mul]

/-- West squared is East: the first digit is the only 1. -/
theorem angleDigits_west (k : Nat) {m : Int} (hm : m < 0) (acc : Nat) :
    angleDigits (k + 1) m 0 acc = (2 * acc + 1) * 2 ^ k := by
  rw [angleDigits_succ, firstDigit_of_lower (.inr ⟨rfl, hm⟩), mul_zero, mul_zero, sub_zero,
    angleDigits_east k (mul_pos_of_neg_of_neg hm hm)]

/-- North-East squared is North, and that squared is West. -/
theorem angleBam_northEast {m : Int} (hm : 0 < m) : angleBam m m = 8192 := by
  have hnorth : 0 < 2 * m * m := by positivity
  have hwest : 0 * 0 - 2 * m * m * (2 * m * m) < 0 := by
    rw [zero_mul, zero_sub, neg_lt_zero]
    positivity
  rw [angleBam, if_neg (by omega), angleDigits_succ, firstDigit_of_upper (.inl hm), sub_self, angleDigits_succ,
    firstDigit_of_upper (.inl hnorth), mul_zero 2, zero_mul (2 * m * m), angleDigits_west 13 hwest]
  norm_num

/-- Settles O50, by the quarter turn from East and from North-East. -/
theorem angleOnAxesAndDiagonals : Obligations.AngleOnAxesAndDiagonals := by
  unfold Obligations.AngleOnAxesAndDiagonals
  intro m hm
  have east : angleBam m 0 = 0 := angleBam_east hm
  have north : angleBam 0 m = 16384 := by simpa [east] using angleBam_quarterTurn (x := m) (y := 0) (by omega)
  have west : angleBam (-m) 0 = 32768 := by simpa [north] using angleBam_quarterTurn (x := 0) (y := m) (by omega)
  have south : angleBam 0 (-m) = 49152 := by simpa [west] using angleBam_quarterTurn (x := -m) (y := 0) (by omega)
  have northEast : angleBam m m = 8192 := angleBam_northEast hm
  have northWest : angleBam (-m) m = 24576 := by
    simpa [northEast] using angleBam_quarterTurn (x := m) (y := m) (by omega)
  have southWest : angleBam (-m) (-m) = 40960 := by
    simpa [northWest] using angleBam_quarterTurn (x := -m) (y := m) (by omega)
  have southEast : angleBam m (-m) = 57344 := by
    simpa [southWest] using angleBam_quarterTurn (x := -m) (y := -m) (by omega)
  exact ⟨east, west, north, south, northEast, northWest, southWest, southEast⟩

/-! The sectors of the octant (R191). -/

/-- The coordinate `a` outweighs `b`: the vector is within 22.5 degrees of the axis of `a`. -/
def Outweighs (a b : Int) : Prop := (|a| + |b|) * (|a| + |b|) < 2 * |a| * |a|

theorem outweighs_neg_left {a b : Int} : Outweighs (-a) b ↔ Outweighs a b := by rw [Outweighs, abs_neg, Outweighs]

theorem outweighs_neg_right {a b : Int} : Outweighs a (-b) ↔ Outweighs a b := by rw [Outweighs, abs_neg, Outweighs]

theorem outweighs_zero {a : Int} (h : a ≠ 0) : Outweighs a 0 := by
  have : 0 < |a| * |a| := mul_pos (abs_pos.mpr h) (abs_pos.mpr h)
  rw [Outweighs, abs_zero, add_zero]
  linarith

theorem Outweighs.abs_lt {a b : Int} (h : Outweighs a b) : |b| < |a| := by
  unfold Outweighs at h
  nlinarith [abs_nonneg a, abs_nonneg b]

theorem Outweighs.ne_zero {a b : Int} (h : Outweighs a b) : a ≠ 0 :=
  abs_pos.mp ((abs_nonneg b).trans_lt h.abs_lt)

theorem Outweighs.not_symm {a b : Int} (h : Outweighs a b) : ¬Outweighs b a := fun h' => lt_asymm h.abs_lt h'.abs_lt

theorem outweighs_iff_of_nonneg {a b : Int} (ha : 0 ≤ a) (hb : 0 ≤ b) :
    Outweighs a b ↔ (a + b) * (a + b) < 2 * a * a := by
  rw [Outweighs, abs_of_nonneg ha, abs_of_nonneg hb]

theorem not_outweighs_of_abs_eq {a b : Int} (h : |a| = |b|) : ¬Outweighs a b := fun hab => hab.abs_lt.ne' h

theorem octant_of_x {x y : Int} (h : Outweighs x y) : octant x y = if 0 < x then .east else .west := by
  have hx : (|x| + |y|) * (|x| + |y|) < 2 * |x| * |x| := h
  rw [octant, if_neg (fun hz => h.ne_zero hz.1), if_pos hx]

theorem octant_of_y {x y : Int} (h : Outweighs y x) : octant x y = if 0 < y then .north else .south := by
  have hx : ¬(|x| + |y|) * (|x| + |y|) < 2 * |x| * |x| := h.not_symm
  have hy : (|x| + |y|) * (|x| + |y|) < 2 * |y| * |y| := add_comm |x| |y| ▸ h
  rw [octant, if_neg (fun hz => h.ne_zero hz.2), if_neg hx, if_pos hy]

theorem octant_of_neither {x y : Int} (hz : x ≠ 0) (hx : ¬Outweighs x y) (hy : ¬Outweighs y x) :
    octant x y = if 0 < y then if 0 < x then .northEast else .northWest
      else if 0 < x then .southEast else .southWest := by
  have hx' : ¬(|x| + |y|) * (|x| + |y|) < 2 * |x| * |x| := hx
  have hy' : ¬(|x| + |y|) * (|x| + |y|) < 2 * |y| * |y| := add_comm |x| |y| ▸ hy
  rw [octant, if_neg (fun h => hz h.1), if_neg hx', if_neg hy']

/-- Of a vector that is not zero either coordinate outweighs the other, or neither does and neither is zero. -/
theorem outweighs_cases {x y : Int} (h : x ≠ 0 ∨ y ≠ 0) :
    Outweighs x y ∨ Outweighs y x ∨ ¬Outweighs x y ∧ ¬Outweighs y x ∧ x ≠ 0 ∧ y ≠ 0 := by
  by_cases hx : Outweighs x y
  · exact .inl hx
  by_cases hy : Outweighs y x
  · exact .inr (.inl hy)
  have hx0 : x ≠ 0 := fun hz => hy (hz ▸ outweighs_zero (by omega))
  have hy0 : y ≠ 0 := fun hz => hx (hz ▸ outweighs_zero (by omega))
  exact .inr (.inr ⟨hx, hy, hx0, hy0⟩)

theorem octant_quarterTurn {x y : Int} (h : x ≠ 0 ∨ y ≠ 0) :
    (octant (-y) x).code.toNat = ((octant x y).code.toNat + 2) % 8 := by
  rcases outweighs_cases h with hx | hy | ⟨hx, hy, hx0, hy0⟩
  · rw [octant_of_x hx, octant_of_y (outweighs_neg_right.mpr hx)]
    split <;> rfl
  · rw [octant_of_y hy, octant_of_x (outweighs_neg_left.mpr hy)]
    rcases hy.ne_zero.lt_or_gt with sy | sy <;> simp [sy, sy.not_gt, Direction.code]
  · rw [octant_of_neither hx0 hx hy,
      octant_of_neither (by omega) (mt outweighs_neg_left.mp hy) (mt outweighs_neg_right.mp hx)]
    rcases hx0.lt_or_gt with sx | sx <;> rcases hy0.lt_or_gt with sy | sy <;>
      simp [sx, sx.not_gt, sy, sy.not_gt, Direction.code]

theorem octant_mirror {x y : Int} (h : x ≠ 0 ∨ y ≠ 0) :
    (octant x (-y)).code.toNat = (8 - (octant x y).code.toNat) % 8 := by
  rcases outweighs_cases h with hx | hy | ⟨hx, hy, hx0, hy0⟩
  · rw [octant_of_x hx, octant_of_x (outweighs_neg_right.mpr hx)]
    split <;> rfl
  · rw [octant_of_y hy, octant_of_y (outweighs_neg_left.mpr hy)]
    rcases hy.ne_zero.lt_or_gt with sy | sy <;> simp [sy, sy.not_gt, Direction.code]
  · rw [octant_of_neither hx0 hx hy,
      octant_of_neither hx0 (mt outweighs_neg_right.mp hx) (mt outweighs_neg_left.mp hy)]
    rcases hx0.lt_or_gt with sx | sx <;> rcases hy0.lt_or_gt with sy | sy <;>
      simp [sx, sx.not_gt, sy, sy.not_gt, Direction.code]

theorem octant_eq_east_iff {x y : Int} (hx : 0 < x) : octant x y = .east ↔ Outweighs x y := by
  refine ⟨fun h => ?_, fun h => by rw [octant_of_x h, if_pos hx]⟩
  by_contra hno
  by_cases hy : Outweighs y x
  · rw [octant_of_y hy] at h
    split at h <;> cases h
  · rw [octant_of_neither hx.ne' hno hy] at h
    split_ifs at h

/-- The boundary of the sector around an axis: the slope `sqrt 2 - 1`. -/
theorem outweighs_iff_slope {x y : Int} (hx : 0 < x) (hy : 0 ≤ y) :
    Outweighs x y ↔ (y : ℝ) < (Real.sqrt 2 - 1) * (x : ℝ) := by
  have hx' : (0 : ℝ) < x := by exact_mod_cast hx
  have hy' : (0 : ℝ) ≤ y := by exact_mod_cast hy
  calc Outweighs x y ↔ ((x : ℝ) + y) ^ 2 < (Real.sqrt 2 * x) ^ 2 := by
        rw [outweighs_iff_of_nonneg hx.le hy, mul_pow, Real.sq_sqrt (by norm_num), ← Int.cast_lt (R := ℝ)]
        push_cast
        ring_nf
    _ ↔ (x : ℝ) + y < Real.sqrt 2 * x := sq_lt_sq₀ (by positivity) (by positivity)
    _ ↔ (y : ℝ) < (Real.sqrt 2 - 1) * x := by constructor <;> intro h <;> linarith

/-- Settles O47: which coordinate outweighs the other decides the octant up to signs, and is a matter of slope. -/
theorem octantGeometry : Obligations.OctantGeometry := by
  unfold Obligations.OctantGeometry
  refine ⟨fun m hm => ?directions, fun x y h => ⟨octant_quarterTurn h, octant_mirror h⟩,
    fun x y hx hy => (octant_eq_east_iff hx).trans (outweighs_iff_slope hx hy)⟩
  have hm0 : m ≠ 0 := hm.ne'
  have axis := outweighs_zero hm0
  have axisNeg := outweighs_zero (neg_ne_zero.mpr hm0)
  simp [octant_of_x axis, octant_of_x axisNeg, octant_of_y axis, octant_of_y axisNeg,
    octant_of_neither, not_outweighs_of_abs_eq, hm, hm0, hm.not_gt]

/-! The octant and the angle (R192). -/

/-- The digits found so far lead those found next. -/
theorem le_angleDigits (k : Nat) (x y : Int) (acc : Nat) : acc * 2 ^ k ≤ angleDigits k x y acc := by
  induction k generalizing x y acc with
  | zero => simp [angleDigits]
  | succ k ih =>
    refine le_trans ?_ (ih _ _ _)
    rw [pow_succ', ← mul_assoc]
    exact Nat.mul_le_mul_right _ (by omega)

/-- More digits leave those before them. -/
theorem angleDigits_div (j k : Nat) (x y : Int) (acc : Nat) :
    angleDigits (j + k) x y acc / 2 ^ k = angleDigits j x y acc := by
  induction j generalizing x y acc with
  | zero =>
    rw [zero_add]
    exact Nat.div_eq_of_lt_le (le_angleDigits k x y acc) (angleDigits_lt k x y acc)
  | succ j ih => rw [Nat.add_right_comm, angleDigits_succ, ih, angleDigits_succ]

/-- Two digits at once: the vector to the fourth power brings the next two to the front. -/
theorem angleDigits_add_two (k : Nat) (x y : Int) (acc : Nat) :
    angleDigits (k + 2) x y acc =
      angleDigits k ((x * x - y * y) * (x * x - y * y) - 2 * x * y * (2 * x * y)) (2 * (x * x - y * y) * (2 * x * y))
        (4 * acc + angleDigits 2 x y 0) := by
  simp only [angleDigits]
  congr 1
  ring

/-! Two digits are the number of the quadrant, each with the axis it begins with. -/

theorem angleDigits_two_of_first {x y : Int} (hx : 0 < x) (hy : 0 ≤ y) : angleDigits 2 x y 0 = 0 := by
  have hd : firstDigit x y = 0 := firstDigit_of_upper (by omega)
  have hsq : 0 < 2 * x * y ∨ 2 * x * y = 0 ∧ 0 < x * x - y * y := by
    rcases hy.eq_or_lt with rfl | hy
    · exact .inr ⟨by ring, by rw [mul_zero, sub_zero]; positivity⟩
    · exact .inl (by positivity)
  rw [angleDigits_succ, angleDigits_succ, hd, firstDigit_of_upper hsq]
  rfl

theorem angleDigits_two_of_second {x y : Int} (hx : x ≤ 0) (hy : 0 < y) : angleDigits 2 x y 0 = 1 := by
  have hsq : 2 * x * y < 0 ∨ 2 * x * y = 0 ∧ x * x - y * y < 0 := by
    rcases hx.eq_or_lt with rfl | hx
    · exact .inr ⟨by ring, by nlinarith⟩
    · exact .inl (by nlinarith)
  rw [angleDigits_succ, angleDigits_succ, firstDigit_of_upper (.inl hy), firstDigit_of_lower hsq]
  rfl

theorem angleDigits_two_of_third {x y : Int} (hx : x < 0) (hy : y ≤ 0) : angleDigits 2 x y 0 = 2 := by
  have hd : firstDigit x y = 1 := firstDigit_of_lower (by omega)
  have hsq : 0 < 2 * x * y ∨ 2 * x * y = 0 ∧ 0 < x * x - y * y := by
    rcases hy.eq_or_lt with rfl | hy
    · exact .inr ⟨by ring, by nlinarith⟩
    · exact .inl (by nlinarith)
  rw [angleDigits_succ, angleDigits_succ, hd, firstDigit_of_upper hsq]
  rfl

theorem angleDigits_two_of_fourth {x y : Int} (hx : 0 ≤ x) (hy : y < 0) : angleDigits 2 x y 0 = 3 := by
  have hsq : 2 * x * y < 0 ∨ 2 * x * y = 0 ∧ x * x - y * y < 0 := by
    rcases hx.eq_or_lt with rfl | hx
    · exact .inr ⟨by ring, by nlinarith⟩
    · exact .inl (by nlinarith)
  rw [angleDigits_succ, angleDigits_succ, firstDigit_of_lower (.inl hy), firstDigit_of_lower hsq]
  rfl

/-- No integer vector lies on the boundary of a sector. -/
theorem sq_ne_two_mul_sq {a b : Int} (ha : 0 ≤ a) (hb : 0 < b) : a * a ≠ 2 * b * b := by
  intro h
  have hb' : (0 : ℝ) < b := by exact_mod_cast hb
  have ha' : (0 : ℝ) ≤ a := by exact_mod_cast ha
  have hsq : (2 : ℝ) = (a / b) ^ 2 := by
    rw [div_pow, eq_div_iff (by positivity)]
    have : (a : ℝ) * a = 2 * b * b := by exact_mod_cast h
    linarith
  refine irrational_sqrt_two ⟨(a : ℚ) / b, ?_⟩
  rw [hsq, Real.sqrt_sq (by positivity)]
  push_cast
  rfl

theorem outweighs_iff_sq {a b : Int} (ha : 0 ≤ a) (hb : 0 ≤ b) : Outweighs a b ↔ 2 * a * b < a * a - b * b := by
  rw [outweighs_iff_of_nonneg ha hb]
  constructor <;> intro h <;> linarith

/-- In the first quadrant the first four digits, in units of half a sector, are those of the octant. -/
theorem octant_of_first {x y : Int} (hx : 0 < x) (hy : 0 ≤ y) :
    (octant x y).code.toNat = (angleDigits 4 x y 0 + 1) / 2 % 8 := by
  have hfirst := angleDigits_two_of_first hx hy
  have hq : 0 ≤ 2 * x * y := by positivity
  have hxq := outweighs_iff_sq hx.le hy
  have hyq := outweighs_iff_sq hy hx.le
  rw [angleDigits_add_two 2, hfirst]
  rcases outweighs_cases (x := x) (y := y) (by omega) with hxy | hyx | ⟨hxy, hyx, -, hy0⟩
  · have hpq : 2 * x * y < x * x - y * y := hxq.mp hxy
    rw [octant_of_x hxy, if_pos hx, angleDigits_two_of_first (by nlinarith) (by nlinarith)]
    rfl
  · have hpq : 2 * x * y < -(x * x - y * y) := by linarith [hyq.mp hyx]
    have hy' : 0 < y := lt_of_le_of_ne hy hyx.ne_zero.symm
    have hq : 0 < 2 * x * y := by positivity
    rw [octant_of_y hyx, if_pos hy', angleDigits_two_of_fourth (by nlinarith) (by nlinarith)]
    rfl
  · have hy' : 0 < y := lt_of_le_of_ne hy hy0.symm
    have hq : 0 < 2 * x * y := by positivity
    have hle : x * x - y * y ≤ 2 * x * y := not_lt.mp (mt hxq.mpr hxy)
    have hge : -(2 * x * y) ≤ x * x - y * y := by linarith [not_lt.mp (mt hyq.mpr hyx)]
    have hne : -(2 * x * y) ≠ x * x - y * y := fun h =>
      sq_ne_two_mul_sq (a := x + y) (b := y) (by omega) hy' (by linarith)
    have hgt := lt_of_le_of_ne hge hne
    rw [octant_of_neither hx.ne' hxy hyx, if_pos hy', if_pos hx]
    rcases lt_or_ge 0 (x * x - y * y) with hp | hp
    · rw [angleDigits_two_of_second (by nlinarith) (by positivity)]
      rfl
    · rw [angleDigits_two_of_third (by nlinarith) (by nlinarith)]
      rfl

/-- What holds in the first quadrant and is kept by a quarter turn holds of every vector but zero. -/
theorem quadrant_induction {P : Int → Int → Prop} (first : ∀ x y, 0 < x → 0 ≤ y → P x y)
    (turn : ∀ x y, x ≠ 0 ∨ y ≠ 0 → P x y → P (-y) x) {x y : Int} (h : x ≠ 0 ∨ y ≠ 0) : P x y := by
  have back : ∀ {x y : Int}, x ≠ 0 ∨ y ≠ 0 → P y (-x) → P x y := fun {x y} h hp => by
    simpa using turn y (-x) (by omega) hp
  have second : ∀ {x y : Int}, x ≤ 0 → 0 < y → P x y := fun hx hy => back (by omega) (first _ _ hy (by omega))
  have third : ∀ {x y : Int}, x < 0 → y ≤ 0 → P x y := fun hx hy => back (by omega) (second hy (by omega))
  have fourth : ∀ {x y : Int}, 0 ≤ x → y < 0 → P x y := fun hx hy => back (by omega) (third hy (by omega))
  have cover : (0 < x ∧ 0 ≤ y) ∨ (x ≤ 0 ∧ 0 < y) ∨ (x < 0 ∧ y ≤ 0) ∨ (0 ≤ x ∧ y < 0) := by omega
  rcases cover with ⟨hx, hy⟩ | ⟨hx, hy⟩ | ⟨hx, hy⟩ | ⟨hx, hy⟩
  exacts [first x y hx hy, second hx hy, third hx hy, fourth hx hy]

/-- Settles O48: in the first quadrant by the first four digits, elsewhere by quarter turns. -/
theorem octantAgreesWithTheAngle : Obligations.OctantAgreesWithTheAngle := by
  unfold Obligations.OctantAgreesWithTheAngle
  intro x y
  by_cases hzero : x = 0 ∧ y = 0
  · obtain ⟨rfl, rfl⟩ := hzero
    rfl
  refine quadrant_induction (P := fun x y => (octant x y).code.toNat = (angleBam x y + 4096) / 2 ^ 13 % 8)
    (fun x y hx hy => ?_) (fun x y h ih => ?_) (by omega : x ≠ 0 ∨ y ≠ 0)
  · have hdiv : angleBam x y / 2 ^ 12 = angleDigits 4 x y 0 := by
      rw [angleBam, if_neg (by omega)]
      exact angleDigits_div 4 12 x y 0
    rw [octant_of_first hx hy, ← hdiv]
    omega
  · rw [octant_quarterTurn h, angleBam_quarterTurn h, ih]
    omega

end Sys2Proof.Machine
end

section
/-! Certificates for 43_direction.md, the tilt and the joystick events of a JTICK (R194 to R201, R293, R297). -/

namespace Sys2Proof.Machine

open Sys2Proof.Claims

/-! The tilt decision (R194). -/

/-- The tilt starts on this tick exactly when the decision turns it on. -/
theorem tiltStarts_eq (d : DirEngine) : tiltStarts d = (!d.tiltActive && (decideTilt d).tiltActive) := by
  rw [decideTilt_tiltActive]
  cases h : d.tiltActive <;> simp [tiltStarts, tiltStops, h]

/-- The tilt stops on this tick exactly when the decision turns it off. -/
theorem tiltStops_eq (d : DirEngine) : tiltStops d = (d.tiltActive && !(decideTilt d).tiltActive) := by
  rw [decideTilt_tiltActive]
  cases h : d.tiltActive <;> simp [tiltStarts, tiltStops, h]

theorem decideTilt_of_not_tilted {d : DirEngine} (h : d.tiltActive = false) :
    (decideTilt d).tiltActive = true ↔ d.cfg.enterTh.toNat ≤ d.mag.toNat := by
  simp [tiltStops, tiltStarts, h]

theorem decideTilt_of_tilted {d : DirEngine} (h : d.tiltActive = true) :
    (decideTilt d).tiltActive = false ↔ d.mag.toNat ≤ exitEff d := by
  simp [tiltStops, tiltStarts, h]

/-- The direction engine of a JTICK when its events are next (R201, R210). -/
def joyDecided (s : State) : DirEngine :=
  let x := (joyAxis s).nx.toInt
  let y := (joyAxis s).ny.toInt
  decideDirection x y (decideTilt (polar x y s.de))

/-- The time a JTICK reads (R210). -/
def joyNow (s : State) : Micros := nowUs (updateClock s).clk

/-- A tilt starts on this JTICK (R194). -/
def joyStarts (s : State) : Bool := !s.de.tiltActive && (joyDecided s).tiltActive

/-- A tilt stops on this JTICK (R194). -/
def joyStops (s : State) : Bool := s.de.tiltActive && !(joyDecided s).tiltActive

theorem joyDirection_eq (s : State) :
    joyDirection s =
      directionEvents (joyStarts s) (joyStops s) (joyNow s) (joyAxis s).nx (joyAxis s).ny (joyDecided s) := by
  rw [joyDirection, directionStep, tiltStarts_eq, tiltStops_eq]
  rfl

/-- The events come after the decisions and leave them alone. -/
theorem joyDirection_frame (s : State) :
    (joyDirection s).1.mag = (joyDecided s).mag ∧ (joyDirection s).1.curDir = (joyDecided s).curDir ∧
      (joyDirection s).1.prevDir = (joyDecided s).prevDir ∧
      (joyDirection s).1.tiltActive = (joyDecided s).tiltActive := by
  obtain ⟨-, hmag, -, hcur, hprev, htilt⟩ := directionEvents_frame (joyStarts s) (joyStops s) (joyNow s) (joyAxis s).nx
    (joyAxis s).ny (joyDecided s)
  rw [joyDirection_eq]
  exact ⟨hmag, hcur, hprev, htilt⟩

/-- Settles O51: the tick ends with the tilt and the direction as the decisions leave them. -/
theorem tiltHysteresis : Obligations.TiltHysteresis := by
  unfold Obligations.TiltHysteresis
  intro s
  refine ⟨_, rfl, ?_⟩
  obtain ⟨hmag, hcur, hprev, htilt⟩ := joyDirection_frame s
  simp only [hmag, hcur, hprev, htilt]
  exact ⟨decideTilt_of_not_tilted (d := polar _ _ s.de), decideTilt_of_tilted (d := polar _ _ s.de), rfl, rfl⟩

/-! The record and the status bit of a joystick event, in the statement's words (R292, R293, R295). -/

theorem joyRecord_eq_record (k : JoyEvent) (arg : BitVec 16) : joyRecord k arg = record 2 k.kind arg.toNat := by
  have hkind : (BitVec.ofNat 4 k.kind).toNat = k.kind := by
    cases k with
    | _ => rfl
  apply BitVec.eq_of_toNat_eq
  rw [← Nat.mod_eq_of_lt (joyRecord k arg).isLt, joyRecord, eventRecord_toNat, hkind, record, BitVec.toNat_ofNat]
  rfl

/-- The status bits after a rule whose condition is `fires` and whose event is of kind `k` (R293). -/
def joyStatusAfter (fires : Bool) (k : JoyEvent) (d : DirEngine) : BitVec 6 :=
  if fires && bitOf d.cfg.jevtEn k.kind then setStatus d.jevtStatus k.kind else d.jevtStatus

theorem getLsbD_joyStatusAfter (fires : Bool) (k : JoyEvent) (d : DirEngine) (j : Nat) :
    (joyStatusAfter fires k d).getLsbD j =
      (d.jevtStatus.getLsbD j || (decide (j = k.kind) && (fires && d.cfg.jevtEn.getLsbD k.kind))) := by
  have hkind : k.kind < 6 := by
    cases k with
    | _ => decide
  unfold joyStatusAfter bitOf
  split
  next h => rw [getLsbD_setStatus _ _ _ hkind, h, Bool.and_true]
  next h => rw [eq_false_of_ne_true h, Bool.and_false, Bool.or_false]

/-- What a rule whose condition is `fires` emits: nothing, or the record of kind `k` if it is enabled (R293). -/
def joyRecords (fires : Bool) (k : JoyEvent) (arg : Nat) (d : DirEngine) : List EventWord :=
  if fires then gated d.cfg.jevtEn 2 k.kind arg else []

theorem ite_emitJoy (fires : Bool) (k : JoyEvent) (arg : BitVec 16) (d : DirEngine) (ev : List EventWord) :
    (if fires then emitJoy k arg (d, ev) else (d, ev)) =
      ({ d with jevtStatus := joyStatusAfter fires k d }, ev ++ joyRecords fires k arg.toNat d) := by
  cases fires
  · simp [joyStatusAfter, joyRecords]
  · rw [emitJoy_eq, joyRecord_eq_record]
    rfl

theorem joyRecords_append (fires : Bool) (k₁ k₂ : JoyEvent) (arg₁ arg₂ : Nat) (d : DirEngine) :
    joyRecords fires k₁ arg₁ d ++ joyRecords fires k₂ arg₂ d =
      if fires then gated d.cfg.jevtEn 2 k₁.kind arg₁ ++ gated d.cfg.jevtEn 2 k₂.kind arg₂ else [] := by
  cases fires <;> rfl

/-! The five rules, each as what it writes and what it emits (R196 to R200). -/

section
variable (start stop : Bool) (now : Micros) (nx ny : Coord) (d : DirEngine) (ev : List EventWord)

/-- The time REPEAT counts from, after TILT_START has had its turn (R196). -/
def repeatStamp : Micros := if start then now else d.lastRepeat

/-- The condition of DIR_CHANGED (R197). -/
def dirChanges : Bool := d.tiltActive && decide (d.curDir ≠ d.prevDir)

theorem emitTiltStart_eq :
    emitTiltStart start now (d, ev) =
      ({ d with lastRepeat := repeatStamp start now d, jevtStatus := joyStatusAfter start .tiltStart d },
        ev ++ joyRecords start .tiltStart 0 d) := by
  refine Eq.trans ?_ (ite_emitJoy start .tiltStart 0 { d with lastRepeat := repeatStamp start now d } ev)
  cases start <;> rfl

theorem emitDirChanged_eq :
    emitDirChanged (d, ev) =
      ({ d with jevtStatus := joyStatusAfter (dirChanges d) .dirChanged d },
        ev ++ joyRecords (dirChanges d) .dirChanged d.curDir.code.toNat d) := by
  have harg : (d.curDir.code.setWidth 16).toNat = d.curDir.code.toNat :=
    BitVec.toNat_setWidth_of_le (by norm_num)
  rw [← harg, ← ite_emitJoy]
  simp [emitDirChanged, dirChanges]

theorem emitMove_eq :
    emitMove nx ny (d, ev) =
      ({ d with
          lrx := if moved nx.toInt ny.toInt d then nx else d.lrx
          lry := if moved nx.toInt ny.toInt d then ny else d.lry
          jevtStatus := joyStatusAfter (moved nx.toInt ny.toInt d) .move d },
        ev ++ joyRecords (moved nx.toInt ny.toInt d) .move 0 d) := by
  refine Eq.trans ?_ (ite_emitJoy (moved nx.toInt ny.toInt d) .move 0
    { d with
      lrx := if moved nx.toInt ny.toInt d then nx else d.lrx
      lry := if moved nx.toInt ny.toInt d then ny else d.lry } ev)
  unfold emitMove
  cases moved nx.toInt ny.toInt d <;> rfl

theorem emitRepeat_eq :
    emitRepeat now (d, ev) =
      ({ d with
          lastRepeat := if repeatDue now d then now else d.lastRepeat
          jevtStatus := joyStatusAfter (repeatDue now d) .repeated d },
        ev ++ joyRecords (repeatDue now d) .repeated 0 d) := by
  refine Eq.trans ?_ (ite_emitJoy (repeatDue now d) .repeated 0
    { d with lastRepeat := if repeatDue now d then now else d.lastRepeat } ev)
  unfold emitRepeat
  cases repeatDue now d <;> rfl

theorem emitTiltStop_eq :
    emitTiltStop stop (d, ev) =
      ({ d with jevtStatus := joyStatusAfter stop .center { d with jevtStatus := joyStatusAfter stop .tiltStop d } },
        ev ++ joyRecords stop .tiltStop 0 d ++ joyRecords stop .center 0 d) := by
  calc emitTiltStop stop (d, ev)
      = let r := if stop then emitJoy .tiltStop 0 (d, ev) else (d, ev)
        if stop then emitJoy .center 0 r else r := by cases stop <;> rfl
    _ = _ := by rw [ite_emitJoy, ite_emitJoy]; rfl

/-- Which kinds of event a tick brings about, enabled or not (R196 to R200). -/
def joyFires : JoyEvent → Bool
  | .move => moved nx.toInt ny.toInt d
  | .tiltStart => start
  | .tiltStop | .center => stop
  | .dirChanged => dirChanges d
  | .repeated => repeatDue now { d with lastRepeat := repeatStamp start now d }

/-- The events of a tick in their order, on the engine as the decisions leave it. -/
theorem directionEvents_records :
    (directionEvents start stop now nx ny d).2 =
      joyRecords start .tiltStart 0 d ++ joyRecords (dirChanges d) .dirChanged d.curDir.code.toNat d ++
      joyRecords (moved nx.toInt ny.toInt d) .move 0 d ++
      joyRecords (joyFires start stop now nx ny d .repeated) .repeated 0 d ++
      (joyRecords stop .tiltStop 0 d ++ joyRecords stop .center 0 d) := by
  simp only [directionEvents, emitTiltStart_eq, emitDirChanged_eq, emitMove_eq, emitRepeat_eq, emitTiltStop_eq,
    List.nil_append, ← List.append_assoc]
  rfl

theorem directionEvents_writes :
    (directionEvents start stop now nx ny d).1.lrx = (if moved nx.toInt ny.toInt d then nx else d.lrx) ∧
      (directionEvents start stop now nx ny d).1.lry = (if moved nx.toInt ny.toInt d then ny else d.lry) ∧
      (directionEvents start stop now nx ny d).1.lastRepeat =
        if joyFires start stop now nx ny d .repeated then now else repeatStamp start now d := by
  simp only [directionEvents, emitTiltStart_eq, emitDirChanged_eq, emitMove_eq, emitRepeat_eq, emitTiltStop_eq]
  exact ⟨rfl, rfl, rfl⟩

theorem directionEvents_jevtStatus (k : JoyEvent) :
    (directionEvents start stop now nx ny d).1.jevtStatus.getLsbD k.kind =
      (d.jevtStatus.getLsbD k.kind || (joyFires start stop now nx ny d k && d.cfg.jevtEn.getLsbD k.kind)) := by
  simp only [directionEvents, emitTiltStart_eq, emitDirChanged_eq, emitMove_eq, emitRepeat_eq, emitTiltStop_eq,
    getLsbD_joyStatusAfter]
  cases k with
  | _ => simp [JoyEvent.kind, joyFires] <;> rfl

end

/-- Settles O52: the rules of a tick, on the engine as the decisions leave it. -/
theorem joystickEventsInOrder : Obligations.JoystickEventsInOrder := by
  unfold Obligations.JoystickEventsInOrder
  intro s
  refine ⟨_, rfl, ?_⟩
  obtain ⟨-, hcur, -, htilt⟩ := joyDirection_frame s
  have hrecords := directionEvents_records (joyStarts s) (joyStops s) (joyNow s) (joyAxis s).nx (joyAxis s).ny
    (joyDecided s)
  obtain ⟨hlrx, hlry, hrepeat⟩ := directionEvents_writes (joyStarts s) (joyStops s) (joyNow s) (joyAxis s).nx
    (joyAxis s).ny (joyDecided s)
  have hstatus := directionEvents_jevtStatus (joyStarts s) (joyStops s) (joyNow s) (joyAxis s).nx (joyAxis s).ny
    (joyDecided s)
  rw [← joyDirection_eq] at hrecords hlrx hlry hrepeat hstatus
  rw [joyRecords_append] at hrecords
  simp only [hcur, htilt]
  refine ⟨congrArg (· ++ (joyButton s).2) hrecords, hlrx, hlry, hrepeat, fun k hk => ?_⟩
  interval_cases k
  exacts [hstatus .move, hstatus .tiltStart, hstatus .tiltStop, hstatus .dirChanged, hstatus .repeated,
    hstatus .center]

end Sys2Proof.Machine
end

section
/-! Certificates for 44_joystick.md: what JTICK composes (R210), and NOP with the reserved command codes (R212). -/

namespace Sys2Proof.Machine

open Sys2Proof.Claims

/-! The records of the direction engine carry the joystick's unit number (R292, R295). -/

theorem record_toNat_div {src kind arg : Nat} (hsrc : src < 2 ^ 4) (hkind : kind < 2 ^ 4) (harg : arg < 2 ^ 16) :
    (record src kind arg).toNat / 2 ^ 20 = src := by
  rw [record, BitVec.toNat_ofNat]
  omega

theorem src_of_mem_joyRecords {fires : Bool} {k : JoyEvent} {arg : Nat} {d : DirEngine} {w : EventWord}
    (harg : arg < 2 ^ 16) (h : w ∈ joyRecords fires k arg d) : w.toNat / 2 ^ 20 = 2 := by
  have hkind : k.kind < 2 ^ 4 := by
    cases k with
    | _ => decide
  obtain rfl : w = record 2 k.kind arg := by
    unfold joyRecords gated at h
    split at h
    · split at h
      · exact List.mem_singleton.mp h
      · contradiction
    · contradiction
  exact record_toNat_div (by decide) hkind harg

/-- The six lists of records a tick is made of, each of one event kind. -/
theorem src_of_mem_directionEvents {start stop : Bool} {now : Micros} {nx ny : Coord} {d : DirEngine} {w : EventWord}
    (h : w ∈ (directionEvents start stop now nx ny d).2) : w.toNat / 2 ^ 20 = 2 := by
  have hcode : d.curDir.code.toNat < 2 ^ 16 := d.curDir.code.isLt.trans (by decide)
  simp only [directionEvents_records, List.mem_append] at h
  obtain (((h | h) | h) | h) | h | h := h
  · exact src_of_mem_joyRecords (by decide) h
  · exact src_of_mem_joyRecords hcode h
  all_goals exact src_of_mem_joyRecords (by decide) h

theorem joyDirection_cfg (s : State) : (joyDirection s).1.cfg = s.de.cfg := by
  obtain ⟨hcfg, -⟩ := directionEvents_frame (joyStarts s) (joyStops s) (joyNow s) (joyAxis s).nx (joyAxis s).ny
    (joyDecided s)
  rw [joyDirection_eq, hcfg]
  rfl

/-- Settles O41: JTICK stores the updated clock, the axis step, the direction step and the tick of `B1`; none of them writes
a configuration, and the direction step's records are the joystick's. -/
theorem jTickComposesItsUnits : Obligations.JTickComposesItsUnits := by
  unfold Obligations.JTickComposesItsUnits
  intro s
  obtain ⟨hcfg, -⟩ := buttonTick_frame (u := .b1) (lvl := s.ports.btn1) (b := s.b1) rfl
  refine ⟨(updateClock s).clk, joyAxis s, (joyDirection s).1, (joyDirection s).2, rfl, clockAfter_updateClock s, rfl,
    joyDirection_cfg s, hcfg, fun w hw => ?_⟩
  rw [joyDirection_eq] at hw
  exact src_of_mem_directionEvents hw

/-! The command codes that do nothing (R93, R96, R212). -/

/-- The code of a command, as a number (R93). -/
theorem cwCode_toNat (cw : CmdWord) : ((cwData cw).setWidth 8).toNat = cw.toNat % 2 ^ 8 := by
  simp [cwData, BitVec.toNat_setWidth]

/-- The reserved codes are those from 8 on (R94). -/
theorem decodeCommand_eq_none {c : BitVec 8} (h : 8 ≤ c.toNat) : decodeCommand c = none := by
  unfold decodeCommand
  split
  case h_9 => rfl
  all_goals exact absurd h (by decide)

/-- A command word with a reserved code executes as NOP (R96). -/
theorem runWord_of_reservedCode {cw : CmdWord} (hw : cwWrite cw = true) (ha : cwAddr cw = 0x00#8)
    (hc : decodeCommand ((cwData cw).setWidth 8) = none) (s : State) : runWord cw s = returnNothing s := by
  simp [runWord, decode, execNotRow, hw, ha, hc]

/-- Settles O5: code 0 decodes to NOP, and a code from 8 on is no row of the table; only the code's eight bits are looked
at. -/
theorem nopAndReservedCodesDoNothing : Obligations.NopAndReservedCodesDoNothing := by
  unfold Obligations.NopAndReservedCodesDoNothing
  refine fun s => ⟨rfl, fun cw hwrite haddr hcode => ?_⟩
  have hw : cwWrite cw = true := by rw [cwWrite_eq_decide, hwrite]; rfl
  have ha : cwAddr cw = 0x00#8 := BitVec.eq_of_toNat_eq ((addrNat_eq_cwAddr cw).symm.trans haddr)
  rw [← cwCode_toNat] at hcode
  rcases hcode with hnop | hreserved
  · have hc : (cwData cw).setWidth 8 = 0x00#8 := BitVec.eq_of_toNat_eq hnop
    have hdecode : decode cw = .ok .nop := decode_eq_ok_iff.mpr (.inr (.inr ⟨hw, ha, by rw [hc]; rfl⟩))
    calc runWord cw s = exec .nop s := runWord_of_decode hdecode s
      _ = .next { s with out := nothing } := rfl
  · exact runWord_of_reservedCode hw ha (decodeCommand_eq_none hreserved) s

end Sys2Proof.Machine
end

section
/-! Certificates for 45_regaccess.md, register reads (R220 to R223, R230 to R237, R241 to R243, R250 to R257, R264 to R274):
the number of each word a read returns, and the latches, which a read clears (R80). -/

namespace Sys2Proof.Claims

open Sys2Proof.Machine

/-! The words of the reads, as numbers (R9, R250, R272). -/

theorem sext32_toInt {n : Nat} (h : n ≤ 32) (v : BitVec n) : (sext32 v).toInt = v.toInt :=
  BitVec.toInt_signExtend_of_le h

theorem bit32_toNat (b : Bool) : (bit32 b).toNat = bit b := apply_ite BitVec.toNat _ _ _

/-- The codes of the directions are the numbers of R33. -/
theorem direction_code_toNat (d : Direction) : d.code.toNat = directionNumber d := by
  cases d <;> rfl

/-- `JOY_CTRL`, field by field (R250). -/
theorem joyCtrlWord_toNat (c : AxisCfg) :
    (joyCtrlWord c).toNat = bit c.invX + 2 * bit c.invY + 4 * bit c.swap + 8 * bit c.xMap + 16 * bit c.yMap := by
  rw [joyCtrlWord, zext32_toNat (by decide)]
  simp only [toNat_append_eq_add, toNat_ofBool_eq_bit]
  ring

/-- `DIR8`, field by field (R272). -/
theorem dir8Word_toNat (d : DirEngine) :
    (dir8Word d).toNat = directionNumber d.curDir + 16 * directionNumber d.prevDir + 256 * bit d.tiltActive := by
  rw [dir8Word, zext32_toNat (by decide)]
  simp only [toNat_append_eq_add, toNat_ofBool_eq_bit, direction_code_toNat]
  ring

/-! The two kinds of read of an element: zero-extended and sign-extended (R220). -/

section
variable {i : Instr} {s : State} {n : Nat} {v : BitVec n}

theorem readsNat_of_zext32 (hn : n ≤ 32) (h : exec i s = returnData (zext32 v) s) : ReadsNat i s v.toNat :=
  readsNat_of_returnData (zext32_toNat hn v) h

theorem readsInt_of_sext32 (hn : n ≤ 32) (h : exec i s = returnData (sext32 v) s) : ReadsInt i s v.toInt :=
  ⟨sext32 v, sext32_toInt hn v, h⟩

end

/-- Settles O9: a word that is 0, and a word that is one flag. -/
theorem commandAndStatusReads : Obligations.CommandAndStatusReads := by
  unfold Obligations.CommandAndStatusReads
  exact fun s => ⟨readsNat_of_returnData rfl rfl, readsNat_of_returnData (bit32_toNat s.clk.clkInit) rfl⟩

/-- Settles O10: each read returns one element of its button; `DEBOUNCE` is the signed one. -/
theorem buttonConfigurationReads : Obligations.ButtonConfigurationReads := by
  unfold Obligations.ButtonConfigurationReads
  refine fun s => ⟨⟨?debounce0, ?_, ?_, ?_, ?_, ?_, ?_, ?_⟩, ⟨?debounce1, ?_, ?_, ?_, ?_, ?_, ?_, ?_⟩⟩
  case debounce0 | debounce1 => exact readsInt_of_sext32 (by decide) rfl
  all_goals exact readsNat_of_zext32 (by decide) rfl

/-- Settles O15: `JOY_CTRL` field by field, the others one element each. -/
theorem joystickConfigurationReads : Obligations.JoystickConfigurationReads := by
  unfold Obligations.JoystickConfigurationReads
  refine fun s => ⟨readsNat_of_returnData (joyCtrlWord_toNat s.ax.cfg) rfl, ?alpha, ?deadzone, ?moveEps, ?enterTh,
    ?exitTh, ?repeatMs, ?calN, ?jevtEn, ?jevtStatus⟩
  all_goals exact readsNat_of_zext32 (by decide) rfl

/-- Settles O19: `DIR8` field by field, the others one element each, by whether it is signed. -/
theorem joystickOutputReads : Obligations.JoystickOutputReads := by
  unfold Obligations.JoystickOutputReads
  refine fun s => ⟨?rawX, ?rawY, ?nx, ?ny, ?mag, ?ang, readsNat_of_returnData (dir8Word_toNat s.de) rfl, ?fx, ?fy⟩
  case rawX | rawY | mag | ang => exact readsNat_of_zext32 (by decide) rfl
  case nx | ny | fx | fy => exact readsInt_of_sext32 (by decide) rfl

/-- Settles O12: the first read returns the flag; the state it leaves has the flag clear, so the second one returns 0 and
changes nothing. -/
theorem latchReadsClearTheFlag : Obligations.LatchReadsClearTheFlag := by
  unfold Obligations.LatchReadsClearTheFlag
  intro s clears
  have readTwice (i : Instr) (flag : Bool) (t : State) (hfirst : exec i s = returnData (bit32 flag) t)
      (hsecond : ∀ o, exec i { t with out := o } = returnData 0 { t with out := o }) : clears i flag t := by
    refine ⟨⟨bit32 flag, bit32_toNat flag, hfirst⟩, fun t' h => ?_⟩
    rw [returnData_eq_next.mp (hfirst.symm.trans h)]
    exact readsNat_of_returnData rfl (hsecond _)
  refine ⟨?pressed0, ?released0, ?double0, ?pressed1, ?released1, ?double1⟩
  all_goals exact readTwice _ _ _ rfl fun _ => rfl

end Sys2Proof.Claims
end

section
/-! Certificates for 45_regaccess.md, register writes (R221, R230 to R237, R250 to R265): the number each write stores (R95)
and the one element it stores it in. -/

namespace Sys2Proof.Claims

open Sys2Proof.Machine

/-! The values stored, as numbers (R95). -/

theorem lowBits_toNat (n : Nat) (v : Word) : (lowBits n v).toNat = v.toNat % 2 ^ n := BitVec.toNat_setWidth n v

/-- The clamp keeps the value within the element's width. -/
theorem clampWrite_toNat {n limit : Nat} (h : limit < 2 ^ n) (v : Word) :
    (clampWrite n limit v).toNat = min (v.toNat % 2 ^ 16) limit := by
  rw [clampWrite, BitVec.toNat_ofNat, Nat.mod_eq_of_lt ((Nat.min_le_right _ _).trans_lt h)]

theorem calNWrite_toNat (v : Word) : (calNWrite v).toNat = max (v.toNat % 2 ^ 8) 1 := by
  rw [calNWrite, BitVec.toNat_ofNat]
  omega

/-- Bit `k` of a status register after a write of `v` (R237, R265). -/
theorem getLsbD_clearStatus_lowBits {n k : Nat} (hk : k < n) (st : BitVec n) (v : Word) :
    (clearStatus st (lowBits n v)).getLsbD k = (st.getLsbD k && !v.getLsbD k) := by
  rw [getLsbD_clearStatus, lowBits, BitVec.getLsbD_setWidth, decide_eq_true hk, Bool.true_and]

/-- Settles O13: each write replaces one element of the configuration of its button. -/
theorem buttonConfigurationWrites : Obligations.ButtonConfigurationWrites := by
  unfold Obligations.ButtonConfigurationWrites
  refine fun s v => ⟨⟨?_, ?_, ?_, ?_, ?_, ?_, ?_⟩, ⟨?_, ?_, ?_, ?_, ?_, ?_, ?_⟩⟩
  all_goals
    refine ⟨_, ?_, rfl⟩
    exact ⟨rfl, lowBits_toNat _ v⟩

/-- Settles O14: the three status registers clear alike, bit by bit. -/
theorem statusWritesClearTheWrittenBits : Obligations.StatusWritesClearTheWrittenBits := by
  unfold Obligations.StatusWritesClearTheWrittenBits
  exact fun s v =>
    ⟨⟨_, fun k hk => getLsbD_clearStatus_lowBits hk s.b0.evtStatus v, rfl⟩,
      ⟨_, fun k hk => getLsbD_clearStatus_lowBits hk s.b1.evtStatus v, rfl⟩,
      ⟨_, fun k hk => getLsbD_clearStatus_lowBits hk s.de.jevtStatus v, rfl⟩⟩

/-- Settles O16: each write replaces the elements of its register, by the plain bits or by their clamp. -/
theorem joystickConfigurationWrites : Obligations.JoystickConfigurationWrites := by
  unfold Obligations.JoystickConfigurationWrites
  refine fun s v => ⟨?joyCtrl, ?alpha, ?deadzone, ?calN, ?moveEps, ?enterTh, ?exitTh, ?repeatMs, ?jevtEn⟩
  all_goals refine ⟨_, ?_, rfl⟩
  case joyCtrl => rfl
  case calN => exact ⟨rfl, calNWrite_toNat v⟩
  case alpha | deadzone | enterTh | exitTh => exact ⟨rfl, clampWrite_toNat (by decide) v⟩
  case moveEps | repeatMs | jevtEn => exact ⟨rfl, lowBits_toNat _ v⟩

/-- Settles O17: each write replaces one of the six calibration elements, and no effective value is looked at. -/
theorem calibrationWritesStoreAsWritten : Obligations.CalibrationWritesStoreAsWritten := by
  unfold Obligations.CalibrationWritesStoreAsWritten
  refine fun s v => ⟨?minX, ?centerX, ?maxX, ?minY, ?centerY, ?maxY⟩
  all_goals
    refine ⟨_, ?_, rfl⟩
    exact ⟨rfl, lowBits_toNat 12 v⟩

end Sys2Proof.Claims
end

section
/-! Certificates for 45_regaccess.md, which units an operation writes (R24, R29, R31, R221, R304): one inversion of `exec` by
the units written, from which each unit's frame is read off. -/

namespace Sys2Proof.Machine

open Sys2Proof.Claims

/-- What an operation changes, by the units it writes, and for each unit what addresses it. -/
inductive Touches (i : Instr) (s t : State) : Prop
  | clock (ht : t = { s with clk := t.clk, out := t.out })
  | timer (ht : t = { s with clk := t.clk, etOff := t.etOff, out := t.out })
      (hi : writesIn i 0x06 0x07 = true ∨ i = .etReset)
  | b0 (ht : t = { s with b0 := t.b0, out := t.out }) (hi : addressesB0 i = true)
      (hcfg : writesIn i 0x10 0x16 = true ∨ t.b0.cfg = s.b0.cfg)
  | b1 (ht : t = { s with b1 := t.b1, out := t.out }) (hi : addressesB1 i = true)
      (hcfg : writesIn i 0x20 0x26 = true ∨ t.b1.cfg = s.b1.cfg)
  | axis (ht : t = { s with ax := t.ax, out := t.out })
      (hi : writesIn i 0x30 0x32 = true ∨ writesIn i 0x37 0x3D = true ∨ i = .calibrate)
  | direction (ht : t = { s with de := t.de, out := t.out })
      (hi : writesIn i 0x33 0x36 = true ∨ writesIn i 0x3E 0x3F = true)
      (hcfg : writesIn i 0x33 0x36 = true ∨ writesIn i 0x3E 0x3E = true ∨ t.de.cfg = s.de.cfg)
  | joystick (ht : t = { s with clk := t.clk, ax := t.ax, de := t.de, b1 := t.b1, out := t.out }) (hi : i = .jTick)
      (hb : t.b1.cfg = s.b1.cfg) (ha : t.ax.cfg = s.ax.cfg) (hd : t.de.cfg = s.de.cfg)

/-- The cases that are not named write the result only, or the clock. -/
theorem exec_touches {i : Instr} {s t : State} (h : exec i s = .next t) : Touches i s t := by
  have htick (u : ButtonId) (lvl : Bool) (b : Button) : (buttonTick u lvl b).1.cfg = b.cfg := (buttonTick_frame rfl).1
  cases i with
  | wrEtUs | wrEtMs => cases h; exact .timer rfl (.inl (by simp [writesIn, encode]))
  | etReset => cases h; exact .timer rfl (.inr rfl)
  | wrB0Debounce | wrB0ClickMs | wrB0PressMs | wrB0DuringMs | wrB0IdleMs | wrB0TickMs | wrB0EvtEn =>
    cases h; exact .b0 rfl (addressesB0_of_addr (by simp [encode])) (.inl (by simp [writesIn, encode]))
  | rdB0Waspressed | rdB0Wasreleased | rdB0Dblclicked | wrB0EvtStatus =>
    cases h; exact .b0 rfl (addressesB0_of_addr (by simp [encode])) (.inr rfl)
  | bReset0 => cases h; exact .b0 rfl (by simp [addressesB0]) (.inr rfl)
  | bTick => cases h; exact .b0 rfl (by simp [addressesB0]) (.inr (htick _ _ _))
  | wrB1Debounce | wrB1ClickMs | wrB1PressMs | wrB1DuringMs | wrB1IdleMs | wrB1TickMs | wrB1EvtEn =>
    cases h; exact .b1 rfl (addressesB1_of_addr (by simp [encode])) (.inl (by simp [writesIn, encode]))
  | rdB1Waspressed | rdB1Wasreleased | rdB1Dblclicked | wrB1EvtStatus =>
    cases h; exact .b1 rfl (addressesB1_of_addr (by simp [encode])) (.inr rfl)
  | bReset1 => cases h; exact .b1 rfl (by simp [addressesB1]) (.inr rfl)
  | wrJoyCtrl | wrAlpha | wrDeadzone => cases h; exact .axis rfl (.inl (by simp [writesIn, encode]))
  | wrCalN | wrCalxMin | wrCalxCenter | wrCalxMax | wrCalyMin | wrCalyCenter | wrCalyMax =>
    cases h; exact .axis rfl (.inr (.inl (by simp [writesIn, encode])))
  | calibrate => cases h; exact .axis rfl (.inr (.inr rfl))
  | wrMoveEps | wrEnterTh | wrExitTh | wrRepeatMs =>
    cases h; exact .direction rfl (.inl (by simp [writesIn, encode])) (.inl (by simp [writesIn, encode]))
  | wrJevtEn =>
    cases h; exact .direction rfl (.inr (by simp [writesIn, encode])) (.inr (.inl (by simp [writesIn, encode])))
  | wrJevtStatus => cases h; exact .direction rfl (.inr (by simp [writesIn, encode])) (.inr (.inr rfl))
  | jTick => cases h; exact .joystick rfl rfl (htick _ _ _) rfl (joyDirection_cfg s)
  | _ => cases h; exact .clock rfl

/-- Settles O55: a unit changes only where it is among the units written, and there its address says so. -/
theorem operationsTouchOnlyTheirUnits : Obligations.OperationsTouchOnlyTheirUnits := by
  unfold Obligations.OperationsTouchOnlyTheirUnits
  intro i s t h
  refine ⟨?own, fun hi => ?b0, fun hw => ?b0Cfg, fun hi => ?b1, fun hw => ?b1Cfg, fun hlo hhi hcal => ?axis,
    fun hlo hhi => ?dirCfg, fun hlo hhi hj => ?dir, fun hw hr => ?timer⟩
  case own =>
    cases exec_touches h with
    | _ ht => rw [ht]; exact ⟨rfl, rfl, rfl⟩
  case b0 =>
    cases exec_touches h with
    | b0 _ hb0 => exact absurd hb0 (by simp [hi])
    | _ ht => rw [ht]
  case b0Cfg =>
    cases exec_touches h with
    | b0 _ _ hcfg => exact hcfg.resolve_left (by simp [hw])
    | _ ht => rw [ht]
  case b1 =>
    cases exec_touches h with
    | b1 _ hb1 => exact absurd hb1 (by simp [hi])
    | joystick _ hj => exact absurd hi (by simp [hj, addressesB1])
    | _ ht => rw [ht]
  case b1Cfg =>
    cases exec_touches h with
    | b1 _ _ hcfg => exact hcfg.resolve_left (by simp [hw])
    | joystick _ _ hcfg => exact hcfg
    | _ ht => rw [ht]
  case axis =>
    cases exec_touches h with
    | axis _ hax => exact absurd hax (by simp [hlo, hhi, hcal])
    | joystick _ hj _ hcfg => exact ⟨hcfg, absurd hj⟩
    | _ ht => rw [ht]; exact ⟨rfl, fun _ => rfl⟩
  case dirCfg =>
    cases exec_touches h with
    | direction _ _ hcfg => exact (hcfg.resolve_left (by simp [hlo])).resolve_left (by simp [hhi])
    | joystick _ _ _ _ hcfg => exact hcfg
    | _ ht => rw [ht]
  case dir =>
    cases exec_touches h with
    | direction _ hde => exact absurd hde (by simp [hlo, hhi])
    | joystick _ hj' => exact absurd hj' hj
    | _ ht => rw [ht]
  case timer =>
    cases exec_touches h with
    | timer _ het => exact absurd het (by simp [hw, hr])
    | _ ht => rw [ht]

end Sys2Proof.Machine
end

section
/-! Certificates for 45_regaccess.md, which joystick event kinds are enabled (R264, R293, R299): two engines that differ in
the enables and the status bits, side by side through a tick. -/

namespace Sys2Proof.Machine

/-- The direction engine with other event enables and other status bits. -/
def DirEngine.withEvents (d : DirEngine) (en st : BitVec 6) : DirEngine :=
  { d with cfg := { d.cfg with jevtEn := en }, jevtStatus := st }

/-- No rule's condition reads the enables, and no rule writes anything by them but the status bits (R196 to R200). -/
theorem directionEvents_withEvents (start stop : Bool) (now : Micros) (nx ny : Coord) (d : DirEngine)
    (en st : BitVec 6) :
    ∃ st₂, (directionEvents start stop now nx ny (d.withEvents en st)).1 =
      (directionEvents start stop now nx ny d).1.withEvents en st₂ := by
  simp only [directionEvents, emitTiltStart_eq, emitDirChanged_eq, emitMove_eq, emitRepeat_eq, emitTiltStop_eq]
  exact ⟨_, rfl⟩

/-- The polar form and the two decisions do not read the enables (R190 to R195). -/
theorem joyDecided_withEvents (s : State) (en st : BitVec 6) :
    joyDecided { s with de := s.de.withEvents en st } = (joyDecided s).withEvents en st := rfl

theorem joyDirection_withEvents (s : State) (en st : BitVec 6) :
    ∃ st₂, (joyDirection { s with de := s.de.withEvents en st }).1 = (joyDirection s).1.withEvents en st₂ := by
  rw [joyDirection_eq, joyDirection_eq, joyDecided_withEvents]
  exact directionEvents_withEvents _ _ _ _ _ _ _ _

/-- Settles O53: the other units of JTICK do not read the direction engine, and the engine differs in its enables and status
bits only. -/
theorem joystickStateIgnoresEventEnables : Obligations.JoystickStateIgnoresEventEnables := by
  unfold Obligations.JoystickStateIgnoresEventEnables
  intro s t t₂ en st h h₂
  obtain ⟨st₂, hde⟩ := joyDirection_withEvents s en st
  rw [returnEvents_eq_next.mp h, returnEvents_eq_next.mp h₂]
  dsimp only
  rw [show { s.de with cfg := { s.de.cfg with jevtEn := en }, jevtStatus := st } = s.de.withEvents en st from rfl, hde]
  rfl

end Sys2Proof.Machine
end

section
/-! Certificates for 60_exceptions.md: every operation, command word and step completes (R290), and the records and
status bits of a button tick (R293 to R295, R297). -/

namespace Sys2Proof.Machine

open Sys2Proof.Claims

/-! Completion (R290): whatever its result, an operation answers a next state. -/

theorem exec_completes (i : Instr) (s : State) : Completes (exec i s) := by
  cases exec_completion i s with
  | read _ _ _ h | write _ _ h | tick _ _ _ _ h => exact ⟨_, h⟩

theorem execNotRow_completes (e : NotRow) (s : State) : Completes (execNotRow e s) := by
  cases e with
  | unmappedRead | unmappedWrite | readOnlyWrite | reservedCommand => exact ⟨_, rfl⟩

theorem runWord_completes (cw : CmdWord) (s : State) : Completes (runWord cw s) := by
  unfold runWord
  split
  · exact exec_completes _ s
  · exact execNotRow_completes _ s

theorem step_completes (s : State) : Completes (step s) := by
  match hm : s.moves with
  | [] => exact ⟨_, takeMove_nil hm⟩
  | .rst :: rest => exact ⟨_, takeMove_rst hm⟩
  | .op cw p :: rest =>
    rw [step, takeMove_op hm]
    exact runWord_completes cw _

/-- Settles O2: by how an operation completes, and by the next move of the environment. -/
theorem everyStepAnswersANextState : Obligations.EveryStepAnswersANextState := by
  unfold Obligations.EveryStepAnswersANextState
  exact ⟨exec_completes, runWord_completes, step_completes⟩

/-! The fields of a button's record, read off its number (R292, R295). -/

theorem ButtonEvent.kind_lt (k : ButtonEvent) : k.kind < 9 := by
  cases k with
  | _ => decide

theorem buttonRecord_src (u : ButtonId) (k : ButtonEvent) (arg : BitVec 16) :
    (buttonRecord u k arg).toNat / 2 ^ 20 = srcOf u := by
  have hsrc : srcOf u < 2 ^ 4 := by
    cases u with
    | b0 | b1 => decide
  rw [buttonRecord_eq_record]
  exact record_toNat_div hsrc (k.kind_lt.trans (by decide)) arg.isLt

theorem buttonRecord_kind (u : ButtonId) (k : ButtonEvent) (arg : BitVec 16) :
    (buttonRecord u k arg).toNat / 2 ^ 16 % 16 = k.kind := by
  have hkind := k.kind_lt
  have harg : arg.toNat < 2 ^ 16 := arg.isLt
  rw [buttonRecord, eventRecord_toNat, ofNat_kind_toNat]
  omega

/-! The bookkeeping of a tick, kept by every rule that emits (R293). -/

/-- In the course of a tick that began with the enables `en` and the status bits `st`: the records so far, `n` at most,
are those of the unit and of enabled kinds, and the status bits are `st` and the kinds of the records. -/
structure Recorded (u : ButtonId) (en st : BitVec 9) (n : Nat) (r : Button × List EventWord) : Prop where
  evtEn : r.1.cfg.evtEn = en
  records : ∀ w ∈ r.2, w.toNat / 2 ^ 20 = srcOf u ∧ en.getLsbD (w.toNat / 2 ^ 16 % 16) = true
  status : ∀ k, r.1.evtStatus.getLsbD k = (st.getLsbD k || r.2.any fun w => w.toNat / 2 ^ 16 % 16 == k)
  length : r.2.length ≤ n

section

variable {u : ButtonId} {en st : BitVec 9} {n m : Nat} {b : Button} {ev : List EventWord}
  {r : Button × List EventWord} {k : ButtonEvent} {arg : BitVec 16}

theorem recorded_nil (u : ButtonId) (b : Button) : Recorded u b.cfg.evtEn b.evtStatus 0 (b, []) :=
  ⟨rfl, by simp, by simp, le_rfl⟩

theorem Recorded.mono (h : Recorded u en st n r) (hnm : n ≤ m) : Recorded u en st m r :=
  ⟨h.evtEn, h.records, h.status, h.length.trans hnm⟩

/-- What a rule writes of the button beside the status bits is no part of the bookkeeping. -/
theorem Recorded.congr (h : Recorded u en st n r) (hcfg : b.cfg = r.1.cfg) (hst : b.evtStatus = r.1.evtStatus) :
    Recorded u en st n (b, r.2) := by
  obtain ⟨hen, hrecords, hstatus, hlength⟩ := h
  exact ⟨(congrArg ButtonCfg.evtEn hcfg).trans hen, hrecords, by simpa only [hst] using hstatus, hlength⟩

/-- `emit` sets the bit of the kind and appends its record together, or does neither (R293). -/
theorem Recorded.emit (h : Recorded u en st n r) : Recorded u en st (n + 1) (emitButton u k arg r) := by
  obtain ⟨hen, hrecords, hstatus, hlength⟩ := h
  unfold emitButton
  split
  case isFalse => exact ⟨hen, hrecords, hstatus, Nat.le_succ_of_le hlength⟩
  case isTrue henabled =>
    refine ⟨hen, ?records, fun j => ?status, by simpa using hlength⟩
    case records =>
      rw [bitOf, hen] at henabled
      rw [List.forall_mem_append, List.forall_mem_singleton, buttonRecord_src, buttonRecord_kind]
      exact ⟨hrecords, rfl, henabled⟩
    case status =>
      rw [getLsbD_setStatus _ _ _ k.kind_lt, hstatus, List.any_append, List.any_cons, List.any_nil,
        buttonRecord_kind, Bool.or_false, Bool.or_assoc, BEq.comm (a := k.kind), beq_eq_decide]

/-- A rule that writes other elements of the button and then emits. -/
theorem Recorded.emit_of_write (h : Recorded u en st n r) (hcfg : b.cfg = r.1.cfg)
    (hst : b.evtStatus = r.1.evtStatus) : Recorded u en st (n + 1) (emitButton u k arg (b, r.2)) :=
  (h.congr hcfg hst).emit

/-! The states, each with the number of records it emits at most (R135 to R140, R297). -/

theorem stepInit_recorded (e : Nat) (h : Recorded u en st n (b, ev)) :
    Recorded u en st (n + 2) (stepInit u e (b, ev)) := by
  have hidle : Recorded u en st (n + 1) (initIdle u e (b, ev)) := by
    unfold initIdle
    split
    · exact h.emit_of_write rfl rfl
    · exact h.mono (Nat.le_succ n)
  unfold stepInit initPress
  split
  · exact hidle.emit_of_write rfl rfl
  · exact hidle.mono (Nat.le_succ _)

theorem stepDown_recorded (e : Nat) (h : Recorded u en st n (b, ev)) :
    Recorded u en st (n + 1) (stepDown u e (b, ev)) := by
  unfold stepDown
  split
  · exact h.emit_of_write rfl rfl
  · split
    · exact h.emit_of_write rfl rfl
    · exact h.mono (Nat.le_succ n)

theorem stepUp_recorded (h : Recorded u en st n (b, ev)) : Recorded u en st n (stepUp (b, ev)) := h.congr rfl rfl

theorem stepCount_recorded (e : Nat) (h : Recorded u en st n (b, ev)) :
    Recorded u en st (n + 1) (stepCount u e (b, ev)) := by
  unfold stepCount
  split
  · exact (h.mono (Nat.le_succ n)).congr rfl rfl
  · split
    · exact h.emit.congr rfl rfl
    · exact h.mono (Nat.le_succ n)

theorem stepPress_recorded (h : Recorded u en st n (b, ev)) : Recorded u en st (n + 1) (stepPress u (b, ev)) := by
  unfold stepPress
  split
  · exact (h.mono (Nat.le_succ n)).congr rfl rfl
  · split
    · exact h.emit.congr rfl rfl
    · exact h.mono (Nat.le_succ n)

theorem stepPressEnd_recorded (h : Recorded u en st n (b, ev)) : Recorded u en st (n + 1) (stepPressEnd u (b, ev)) :=
  h.emit.congr rfl rfl

end

/-- Only Init has two rows that emit (R135). -/
theorem evaluate_recorded (u : ButtonId) (b : Button) :
    Recorded u b.cfg.evtEn b.evtStatus (if b.state = .init then 2 else 1) (evaluate u b) := by
  have hnil := recorded_nil u b
  cases hs : b.state with
  | init =>
    rw [evaluate_of_init hs]
    exact stepInit_recorded _ hnil
  | down =>
    rw [evaluate_of_down hs]
    exact stepDown_recorded _ hnil
  | up =>
    rw [evaluate_of_up hs]
    exact (stepUp_recorded hnil).mono (Nat.zero_le _)
  | count =>
    rw [evaluate_of_count hs]
    exact stepCount_recorded _ hnil
  | press =>
    rw [evaluate_of_press hs]
    exact stepPress_recorded hnil
  | pressEnd =>
    rw [evaluate_of_pressEnd hs]
    exact stepPressEnd_recorded hnil

theorem buttonTick_recorded (u : ButtonId) (lvl : Bool) (b : Button) :
    Recorded u b.cfg.evtEn b.evtStatus (if b.state = .init then 2 else 1) (buttonTick u lvl b) := by
  simpa [buttonTick_eq] using evaluate_recorded u (preTick lvl b)

/-- Settles O39: the bookkeeping of the whole tick. -/
theorem buttonStatusBitsRecordTheEvents : Obligations.ButtonStatusBitsRecordTheEvents := by
  unfold Obligations.ButtonStatusBitsRecordTheEvents
  intro u lvl b b' ev h
  obtain ⟨-, hrecords, hstatus, hlength⟩ := h ▸ buttonTick_recorded u lvl b
  refine ⟨hrecords, fun k _ => hstatus k, hlength.trans ?_, fun hs => by simpa [hs] using hlength⟩
  split
  · exact le_rfl
  · exact Nat.le_succ 1

end Sys2Proof.Machine
end

section
/-! Certificates for 70_reset_and_hazards.md: what hardware reset leaves (R320, R321). The reset state is the one hardware
reset leaves of itself, so each rule about `hardwareReset` says the same of `State.reset`. -/

namespace Sys2Proof.Machine

open Sys2Proof.Claims

@[simp] theorem hardwareReset_reset : hardwareReset State.reset = State.reset := rfl

theorem step_rst {s : State} {rest : List Move} (h : s.moves = .rst :: rest) :
    step s = .next (hardwareReset { s with moves := rest }) := takeMove_rst h

/-- The reset enables no event, so `max_clicks` is 2 (R142). -/
theorem buttonAtReset_reset : ButtonAtReset Button.reset := by
  unfold ButtonAtReset
  decide

/-- Unit by unit; nothing of the state before the reset is left in any of them. -/
theorem hardwareReset_atReset (s : State) : AtReset (hardwareReset s) := by
  refine ⟨?time, buttonAtReset_reset, buttonAtReset_reset, ?axisCfg, ?dirCfg, ?vectors, ?tilt⟩
  case time =>
    rw [hardwareReset_clk, hardwareReset_etOff]
    decide
  case axisCfg =>
    rw [hardwareReset_ax]
    decide
  case dirCfg =>
    rw [hardwareReset_de]
    decide
  case vectors =>
    rw [hardwareReset_ax, hardwareReset_de]
    decide
  case tilt =>
    rw [hardwareReset_de]
    decide

/-- Settles O3: an asserted `rst` leaves `hardwareReset` of the state, and `State.reset` is its own hardware reset. -/
theorem resetLeavesTheResetValues : Obligations.ResetLeavesTheResetValues := by
  unfold Obligations.ResetLeavesTheResetValues
  refine ⟨hardwareReset_reset ▸ hardwareReset_atReset State.reset, fun s rest hm => ?_⟩
  exact ⟨_, step_rst hm, hardwareReset_atReset _, rfl, rfl, rfl, rfl⟩

/-- Settles O58: hardware reset leaves the invariant in every unit, for any `CNT_BITS` and `CNT_PER_US`. -/
theorem invariantHoldsAtReset : Obligations.InvariantHoldsAtReset := by
  unfold Obligations.InvariantHoldsAtReset
  have hinv : (hardwareReset State.reset).Inv := hardwareReset_inv State.reset
  rwa [hardwareReset_reset] at hinv

end Sys2Proof.Machine
end
